-- ==== Sys2Proof/Word.lean ====
section
/-! DEFINITION. The words of `edge_capture_fsm`, at the widths the spec gives them. Every value whose width
is a parameter of the instance (`TS_W`, `CW`) is held as a natural number; see Config.lean. -/

namespace Sys2Proof

/-- One byte of a frame, and one byte of a laid-out step-selector word (R56, R57). -/
abbrev Byte := BitVec 8

/-- The step-selector word `SEL[12:0]` (R80). -/
abbrev SelWord := BitVec 13

/-- One input word `IN[3:0] = {rst, start, line_err, line_level}` (R85). -/
abbrev InWord := BitVec 4

/-- A 40-bit window of the Bit Sequence; the first-received bit is bit 39 (R57, R76). -/
abbrev FrameWord := BitVec 40

/-- A result register in tenths: `RES_HUM`, `RES_TEMP` (R31). -/
abbrev Tenths := BitVec 16

end Sys2Proof
end

