-- ==== Sys2Proof/Config.lean ====
section
/-! DEFINITION. What an instance of the block fixes (R7), and the values the spec leaves free. A free value is
an `opaque` constant with no body: nothing can be proved of what it is. -/

namespace Sys2Proof

/-- The elaboration-time parameters of one instance (R7): constants that nothing at run time writes. A state
carries its instance's parameters, so that a statement about every state is a statement about every
configuration; no operation changes them (assumption log 1). `THRESH_TICKS`, `CW` and `BIT_CAP` are derived from
these (Machine/Parameters.lean). -/
structure Params where
  /-- `TICKS_PER_US`: clock cycles per microsecond. OPEN (R7, D2). -/
  ticksPerUs : Nat
  /-- `THRESHOLD_US`: the pulse classification threshold in microseconds, default 35 (R7, D8). -/
  thresholdUs : Nat
  /-- `CAPTURE_TICKS`: the last elapsed value at which a sample is taken. OPEN (R7, D5). -/
  captureTicks : Nat
  /-- `MAX_EDGES`: the edge buffer's capacity, default 83 (R7, D6). -/
  maxEdges : Nat
  /-- `TS_W`: the width in bits of `ELAPSED` and of a timestamp, default 32 (R7, D7). -/
  tsW : Nat
deriving DecidableEq, Repr

/-- The configuration that `State.reset` names. 35, 83 and 32 are the defaults of R7.
DESIGN CHOICE (assumption log 1), unsafe: `TICKS_PER_US` and `CAPTURE_TICKS` are OPEN in R7; 1 tick per
microsecond and a window of 5,000,000 ticks stand here so that `State.reset` is one state. No statement rests
on them. -/
def Params.atReset : Params where
  ticksPerUs := 1
  thresholdUs := 35
  captureTicks := 5000000
  maxEdges := 83
  tsW := 32

namespace Config

/-- FREE VALUE. The input word of cycle `n` where no stimulus gives one: the host and the line may present any
word (R105, X13, D3; assumption log 2). -/
opaque freeInput : Nat → InWord

/-- FREE VALUE. What `dbg_edge_ts` shows in cycle `n` at an index that is not valid (R79, X7; log 10). -/
opaque freeEdgeTs : Nat → Nat → Nat

/-- FREE VALUE. What `dbg_edge_kind` shows in cycle `n` at an index that is not valid (R79, X7; log 10). -/
opaque freeEdgeKind : Nat → Nat → Bool

/-- FREE VALUE. What `dbg_bit` shows in cycle `n` at an index that is not valid (R79, X7; log 10). -/
opaque freeBit : Nat → Nat → Bool

/-- `HOST_LOW_HOLD`, OPEN and host-side: how long the host holds the line low (R197 (a), D26, X11). A premise of
a reading, no input of the step. -/
opaque hostLowHold : Nat

/-- `HOST_START_GAP`, OPEN and host-side: the longest gap from releasing the line (R197 (b), D26, X11). A premise
of a reading, no input of the step. DESIGN CHOICE (assumption log 14), unsafe: R197 (b) lets the gap end at START
and D26 at the first poll, one cycle later; here it ends at START. -/
opaque hostStartGap : Nat

end Config

end Sys2Proof
end

