-- ==== Sys2Proof/Syntax.lean ====
section
/-! DEFINITION. The operations of the block, one constructor per row of the operation map (R83), and what one
cycle selects among them (R80, R105). No row has an operand field, so every constructor is plain. -/

namespace Sys2Proof

/-- An operation of the block: one row of R83 and of spec/opcode_table.json. -/
inductive Instr where
  | reset         -- RESET, R104
  | start         -- START, R100
  | idleHold      -- IDLE_HOLD, R101
  | busyStart     -- BUSY_START, R102
  | capAbort      -- CAP_ABORT, R122
  | capSeed       -- CAP_SEED, R123
  | capEdge       -- CAP_EDGE, R124
  | capSame       -- CAP_SAME, R125
  | clsPairFall   -- CLS_PAIR_FALL, R143
  | clsPairRise   -- CLS_PAIR_RISE, R144
  | clsEnd        -- CLS_END, R145
  | decInsuf      -- DEC_INSUF, R164
  | decExhaust    -- DEC_EXHAUST, R165
  | decMatch      -- DEC_MATCH, R166
  | decMismatch   -- DEC_MISMATCH, R167
deriving DecidableEq, Repr

/-- The class of a row of R83. -/
inductive RowClass where
  /-- Overrides every other row. -/
  | override
  /-- Exactly one runs in each cycle without reset. -/
  | primary
  /-- Runs beside the cycle's primary row. -/
  | side
deriving DecidableEq, Repr

/-- The operations one cycle runs (R80, R105). -/
inductive Selection where
  /-- RESET, alone. -/
  | override
  /-- One primary operation, and BUSY_START with it where `side` is true. -/
  | run (primary : Instr) (side : Bool)
deriving DecidableEq, Repr

/-- Why a word is not decoded. -/
inductive DecodeError where
  /-- No row of R83 matches. R82 says that this never happens to a 13-bit word. -/
  | noRow
  /-- Fewer than the two bytes that hold a 13-bit selector (log 16). -/
  | tooShort
  /-- A bit above bit 12 is set: the word is no 13-bit selector (R87; log 16). -/
  | notThirteenBits
deriving DecidableEq, Repr

end Sys2Proof
end

