-- ==== Sys2Proof/WellFormed.lean ====
section
/-! DEFINITION. The checks: a configuration (R8), what a cycle may select (R80, R83), and which selector words a
cycle can form at all (R80). The constructors of `Instr` carry no data, so no instruction is ill-formed. -/

namespace Sys2Proof

/-- R8: `TICKS_PER_US >= 1`, `MAX_EDGES >= 1` and `CAPTURE_TICKS + 1 <= 2^TS_W - 1`. That THRESHOLD_US and
CAPTURE_TICKS are not negative holds by their type. A configuration that breaks R8 is refused (X14). -/
abbrev Params.WellFormed (p : Params) : Prop :=
  1 ≤ p.ticksPerUs ∧ 1 ≤ p.maxEdges ∧ p.captureTicks + 1 ≤ 2 ^ p.tsW - 1

/-- The class column of R83. -/
def Instr.rowClass : Instr → RowClass
  | .reset => .override
  | .busyStart => .side
  | .start | .idleHold => .primary
  | .capAbort | .capSeed | .capEdge | .capSame => .primary
  | .clsPairFall | .clsPairRise | .clsEnd => .primary
  | .decInsuf | .decExhaust | .decMatch | .decMismatch => .primary

/-- The rows whose phase field is IDLE (R83). BUSY_START never runs beside them: it needs PHASE != IDLE. -/
def Instr.isIdleRow : Instr → Bool
  | .start | .idleHold => true
  | .reset | .busyStart => false
  | .capAbort | .capSeed | .capEdge | .capSame => false
  | .clsPairFall | .clsPairRise | .clsEnd => false
  | .decInsuf | .decExhaust | .decMatch | .decMismatch => false

/-- What a cycle may select: RESET alone, or a row of class primary, with BUSY_START only outside IDLE. -/
abbrev Selection.WellFormed : Selection → Prop
  | .override => True
  | .run i side => i.rowClass = .primary ∧ (side = true → i.isIdleRow = false)

/-- The selector words that some state and inputs form (R80): bit 11 is `start` outside IDLE, bits 7 and 10 are
0 where their guards (bits 6 and 9) are, and no window is available while the sequence is short. -/
abbrev SelWord.Formable (w : SelWord) : Prop :=
  w.getLsbD 11 = (w.getLsbD 2 && (w.getLsbD 0 || w.getLsbD 1)) ∧
  (w.getLsbD 7 = true → w.getLsbD 6 = true) ∧
  (w.getLsbD 10 = true → w.getLsbD 9 = true) ∧
  (w.getLsbD 9 = true → w.getLsbD 8 = false)

end Sys2Proof
end

