-- ==== Sys2Proof/Decode.lean ====
section
/-! DEFINITION. The operation map of R83 as match and mask values, the decoder of a selector word (R81, R82),
and the encoder. -/

namespace Sys2Proof

/-- The mask column of R83. -/
def Instr.mask : Instr → SelWord
  | .reset       => 0x1000#13
  | .start       => 0x1007#13
  | .idleHold    => 0x1007#13
  | .busyStart   => 0x1800#13
  | .capAbort    => 0x100B#13
  | .capSeed     => 0x101B#13
  | .capEdge     => 0x103B#13
  | .capSame     => 0x103B#13
  | .clsPairFall => 0x10C3#13
  | .clsPairRise => 0x10C3#13
  | .clsEnd      => 0x1043#13
  | .decInsuf    => 0x1103#13
  | .decExhaust  => 0x1303#13
  | .decMatch    => 0x1703#13
  | .decMismatch => 0x1703#13

/-- The match column of R83. -/
def Instr.matchBits : Instr → SelWord
  | .reset       => 0x1000#13
  | .start       => 0x0004#13
  | .idleHold    => 0x0000#13
  | .busyStart   => 0x0800#13
  | .capAbort    => 0x0009#13
  | .capSeed     => 0x0001#13
  | .capEdge     => 0x0031#13
  | .capSame     => 0x0011#13
  | .clsPairFall => 0x00C2#13
  | .clsPairRise => 0x0042#13
  | .clsEnd      => 0x0002#13
  | .decInsuf    => 0x0103#13
  | .decExhaust  => 0x0003#13
  | .decMatch    => 0x0603#13
  | .decMismatch => 0x0203#13

/-- R83: "A row applies when `(SEL & mask) == match`." -/
def Instr.applies (i : Instr) (w : SelWord) : Bool := (w &&& i.mask) == i.matchBits

/-- The rows of class primary, in the table's order. -/
def primaryRows : List Instr :=
  [.start, .idleHold, .capAbort, .capSeed, .capEdge, .capSame, .clsPairFall, .clsPairRise, .clsEnd,
   .decInsuf, .decExhaust, .decMatch, .decMismatch]

/-- The primary row a word matches: R82 says there is exactly one when bit 12 is 0. -/
def decodePrimary (w : SelWord) : Option Instr := primaryRows.find? (·.applies w)

/-- R80, R81: RESET overrides; otherwise the primary row, with BUSY_START where it matches too. -/
def decode (w : SelWord) : Except DecodeError Selection :=
  if Instr.reset.applies w then .ok .override
  else
    match decodePrimary w with
    | some i => .ok (.run i (Instr.busyStart.applies w))
    | none => .error .noRow

/-- A word whose bit 11 says BUSY_START although its phase or start field says that none can happen: no cycle
forms it (R80), and it stands for the side row alone (assumption log 8). -/
def sideAlone (w : SelWord) : Bool :=
  Instr.busyStart.applies w && !(w.getLsbD 2 && (w.getLsbD 0 || w.getLsbD 1))

/-- The ONE row a word stands for: RESET, or the side row where the word is the side row's alone, or else the
primary row (assumption log 8). -/
def decodeRow (w : SelWord) : Except DecodeError Instr :=
  if sideAlone w then .ok .busyStart
  else
    match decode w with
    | .ok .override => .ok .reset
    | .ok (.run i _) => .ok i
    | .error e => .error e

/-- A selector word laid out in bytes: two bytes, the low one first, the three bits above bit 12 zero
(DESIGN CHOICE, assumption log 16). Total on any bytes; what it cannot read it rejects by name. -/
def decodeBytes : List Byte → Except DecodeError (Instr × List Byte)
  | lo :: hi :: rest =>
    if 0x20#8 ≤ hi then .error .notThirteenBits
    else
      match decodeRow (BitVec.ofNat 13 (lo.toNat + 256 * hi.toNat)) with
      | .ok i => .ok (i, rest)
      | .error e => .error e
  | [_] => .error .tooShort
  | [] => .error .tooShort

/-- The `n` low bytes of `w`, the lowest first. -/
def littleEndianBytes : Nat → Nat → List Byte
  | 0, _ => []
  | n + 1, w => BitVec.ofNat 8 w :: littleEndianBytes n (w / 256)

/-- The instruction the decoder reads from an instruction whose bits are `w`, numbered as
spec/opcode_table.json numbers them. `nbits` is the row's length in whole bytes; bits above it are zero. -/
def decodeTableWord (nbits w : Nat) : Option Instr :=
  match decodeBytes (littleEndianBytes 2 (w % 2 ^ nbits)) with
  | .ok (i, _) => some i
  | .error _ => none

/-! ### The encoder, written from the same table -/

/-- An operation's word with every bit its row ignores at 0. -/
def Instr.encode (i : Instr) : SelWord := i.matchBits

/-- An operation's word with the bits its row ignores taken from `other`. -/
def Instr.encodeWith (i : Instr) (other : SelWord) : SelWord := i.matchBits ||| (other &&& ~~~i.mask)

/-- The word of what a cycle selects: BUSY_START beside a primary row sets bit 11 and the start bit (R80). -/
def Selection.encode : Selection → SelWord
  | .override => Instr.reset.matchBits
  | .run i side => i.matchBits ||| (if side then 0x0804#13 else 0#13)

/-- An operation's word laid out in bytes, as `decodeBytes` reads it. -/
def Instr.encodeBytes (i : Instr) : List Byte := littleEndianBytes 2 i.encode.toNat

/-- The name of an operation (R84: the mnemonic of R83). -/
def Instr.mnemonic : Instr → String
  | .reset => "RESET"
  | .start => "START"
  | .idleHold => "IDLE_HOLD"
  | .busyStart => "BUSY_START"
  | .capAbort => "CAP_ABORT"
  | .capSeed => "CAP_SEED"
  | .capEdge => "CAP_EDGE"
  | .capSame => "CAP_SAME"
  | .clsPairFall => "CLS_PAIR_FALL"
  | .clsPairRise => "CLS_PAIR_RISE"
  | .clsEnd => "CLS_END"
  | .decInsuf => "DEC_INSUF"
  | .decExhaust => "DEC_EXHAUST"
  | .decMatch => "DEC_MATCH"
  | .decMismatch => "DEC_MISMATCH"

end Sys2Proof
end

