-- ==== Sys2Proof/Machine/State.lean ====
section
/-! DEFINITION. The state of one block instance (R20 to R33) as plain data, the reasons a step can stop, and
the state after reset (R39). Beside the spec's elements stand the model's own three: the instance's parameters
(log 1), the input words still to come and the number of clock edges seen (log 2). -/

namespace Sys2Proof.Machine

/-- `PHASE[1:0]`: the attempt sequencer (R21, R72). All four codes are in use. -/
inductive Phase where
  | idle
  | capture
  | classify
  | decode
deriving DecidableEq, Repr

/-- `STATUS[2:0]`: the outcome of the most recent attempt, or BUSY while one runs (R22, R73). All eight codes
are kept, because the state before the first reset is unspecified (R220); the block never writes the last two. -/
inductive Status where
  | noAttempt          -- 0b000 NONE
  | busy               -- 0b001 BUSY
  | ok                 -- 0b010 OK
  | lineIoFailed       -- 0b011 LINE_IO_FAILED
  | insufficientData   -- 0b100 INSUFFICIENT_DATA
  | noValidFrame       -- 0b101 NO_VALID_FRAME
  | reserved6          -- 0b110, reserved for the host's LineAcquisitionFailed
  | reserved7          -- 0b111, reserved
deriving DecidableEq, Repr

/-- One entry of the edge buffer, `(EDGE_TS[i], EDGE_KIND[i])` (R26, R74): the timestamp in ticks and the level
after the edge (true is RisingEdge, false is FallingEdge). -/
structure EdgeEvent where
  ts : Nat
  kind : Bool
deriving DecidableEq, Repr

/-- The state. `edges` and `bits` hold exactly the buffer entries that hold a value, in order, so that
`EDGE_COUNT` and `BIT_COUNT` are their lengths (R25, R28; log 4). A register whose width is a parameter is a
natural number, and every write of one keeps the low bits its width has (log 3). -/
structure State where
  /-- The model's own: the parameters of this instance (R7; log 1). -/
  params : Params
  /-- The model's own: the input words of the coming cycles, the next edge's first (R85, R105; log 2). -/
  stimulus : List InWord
  /-- The model's own: how many clock edges have passed. It only numbers the free inputs (log 2). -/
  cycle : Nat
  /-- `PHASE` (R21). -/
  phase : Phase
  /-- `STATUS` (R22). -/
  status : Status
  /-- `ELAPSED[TS_W-1:0]`: the capture time base (R23). -/
  elapsed : Nat
  /-- `LAST_LEVEL` (R24). -/
  lastLevel : Bool
  /-- `HAVE_LAST` (R24). -/
  haveLast : Bool
  /-- `EDGE_TS[i]`, `EDGE_KIND[i]` for `i < EDGE_COUNT`, and `EDGE_COUNT[CW-1:0]` as their number (R25, R26). -/
  edges : List EdgeEvent
  /-- `CLS_IDX[CW-1:0]`: the classifier's pair index (R27). -/
  clsIdx : Nat
  /-- `BITS[j]` for `j < BIT_COUNT`, and `BIT_COUNT[CW-1:0]` as their number (R28). -/
  bits : List Bool
  /-- `WIN_OFF[CW-1:0]`: the decoder's window offset (R29). -/
  winOff : Nat
  /-- `REJECTS[CW-1:0]`: the windows rejected in this attempt (R30). -/
  rejects : Nat
  /-- `RES_HUM[15:0]` (R31). -/
  resHum : Tenths
  /-- `RES_TEMP[15:0]`, two's complement (R31). -/
  resTemp : Tenths
  /-- `RES_TSIGN` (R31). -/
  resTsign : Bool
  /-- `RES_FRAME[39:0]` (R31). -/
  resFrame : FrameWord
  /-- `RES_OFF[CW-1:0]` (R31). -/
  resOff : Nat
  /-- `HAVE_READING` (R32). -/
  haveReading : Bool
  /-- `HOST_VIOL` (R33). -/
  hostViol : Bool
deriving DecidableEq, Repr

/-- Why the machine stops. The spec calls each a model fault that no reachable state raises. -/
inductive Fault where
  /-- EdgeAppend with `EDGE_COUNT >= MAX_EDGES` (R52). Raised by CAP_EDGE. Safe. -/
  | edgeBufferFull
  /-- EdgeRead of an entry that holds no value (R26, R52, X6). Raised by CLS_PAIR_FALL. Safe. -/
  | edgeHoldsNoValue
  /-- BitAppend with `BIT_COUNT >= BIT_CAP` (R54). Raised by CLS_PAIR_FALL. Safe. -/
  | bitBufferFull
  /-- BitRead of an entry that holds no value (R28, R54, X6). Raised by DEC_MATCH and DEC_MISMATCH. Safe. -/
  | bitHoldsNoValue
  /-- STATUS holds a reserved code (R73, X8). Raised by `step`, but for a cycle with `rst = 1`. Safe. -/
  | reservedStatus
deriving DecidableEq, Repr

/-- Why the model gives a step no meaning. -/
inductive Refusal where
  /-- The operation has no meaning yet. Raised by `exec`; no arm of this model does. Safe. -/
  | notModelled (mnemonic : String)
  /-- The configuration breaks R8, so the model refuses it (R8, X14). Raised by `step`. Safe. -/
  | badConfiguration
  /-- The selector word matches no row. R82 says that none exists. Raised by `step`. Safe. -/
  | noRow
deriving DecidableEq, Repr

/-- The state after reset of an instance with parameters `p`: the values of R39. Every buffer entry holds no
value. `stimulus` is what the host and the line present next. -/
def State.resetWith (p : Params) (stimulus : List InWord) : State where
  params := p
  stimulus := stimulus
  cycle := 0
  phase := .idle
  status := .noAttempt
  elapsed := 0
  lastLevel := false
  haveLast := false
  edges := []
  clsIdx := 0
  bits := []
  winOff := 0
  rejects := 0
  resHum := 0#16
  resTemp := 0#16
  resTsign := false
  resFrame := 0#40
  resOff := 0
  haveReading := false
  hostViol := false

/-- The state right after reset (R39, R220), of the instance that assumption log 1 names, with no input word
given yet (log 2). -/
def State.reset : State := State.resetWith Params.atReset []

end Sys2Proof.Machine
end

