-- ==== Sys2Proof/Machine/Parameters.lean ====
section
/-! DEFINITION. The derived parameters of R7 and the fixed protocol constants of R9, and what a register of a
parameter's width holds after a write. -/

namespace Sys2Proof.Machine

/-- `THRESH_TICKS = THRESHOLD_US * TICKS_PER_US` (R7, R142). -/
def threshTicks (p : Params) : Nat := p.thresholdUs * p.ticksPerUs

/-- `CW = clog2(MAX_EDGES + 1)` (R7, D29), written with the floor logarithm of MAX_EDGES, which R8 has at
least 1. -/
def countWidth (p : Params) : Nat := Nat.log2 p.maxEdges + 1

/-- `BIT_CAP = MAX_EDGES - 1` (R7, D10). -/
def bitCap (p : Params) : Nat := p.maxEdges - 1

/-- `FRAME_BITS = 40` (R9). -/
def frameBits : Nat := 40

/-- A write of `v` to a `TS_W`-bit register. R10: it holds values `0 .. 2^TS_W - 1`. No reachable write wraps
(R13 (a)). DESIGN CHOICE (log 3): the low bits are kept. -/
def fitTs (p : Params) (v : Nat) : Nat := v % 2 ^ p.tsW

/-- A write of `v` to a `CW`-bit register (R10). No reachable write wraps (R13 (b)). DESIGN CHOICE (log 3): the
low bits are kept. -/
def fitCount (p : Params) (v : Nat) : Nat := v % 2 ^ countWidth p

end Sys2Proof.Machine
end

