-- ==== Sys2Proof/Machine/Operands.lean ====
section
/-! DEFINITION. How operands are assembled: the input ports from an input word (R70, R85), the codes of PHASE
and STATUS (R72, R73), the bytes and fields of a window (R57, R58, R76, R77), and a pulse's duration and bit
(R141, R142). -/

namespace Sys2Proof.Machine

/-! ### Inputs -/

/-- The input ports that a clock edge samples and an operation can read (R70). -/
structure Pins where
  rst : Bool
  start : Bool
  lineErr : Bool
  lineLevel : Bool
deriving DecidableEq, Repr

/-- R85: `IN[3:0] = {rst, start, line_err, line_level}`. -/
def Pins.ofWord (w : InWord) : Pins where
  rst := w.getLsbD 3
  start := w.getLsbD 2
  lineErr := w.getLsbD 1
  lineLevel := w.getLsbD 0

/-- The input word of four port values (R85). -/
def Pins.toWord (p : Pins) : InWord :=
  BitVec.ofBool p.rst ++ BitVec.ofBool p.start ++ BitVec.ofBool p.lineErr ++ BitVec.ofBool p.lineLevel

/-- The input word of the `k`-th coming edge: the stimulus's, or a free one where the stimulus says nothing
(R105; log 2). -/
def State.inputAt (s : State) (k : Nat) : InWord :=
  match s.stimulus[k]? with
  | some w => w
  | none => Config.freeInput (s.cycle + k)

/-- `in`: the ports this edge samples (R11, R70). -/
def State.pins (s : State) : Pins := Pins.ofWord (s.inputAt 0)

/-! ### Codes -/

/-- R72. -/
def Phase.code : Phase → BitVec 2
  | .idle => 0b00#2
  | .capture => 0b01#2
  | .classify => 0b10#2
  | .decode => 0b11#2

/-- R73. -/
def Status.code : Status → BitVec 3
  | .noAttempt => 0b000#3
  | .busy => 0b001#3
  | .ok => 0b010#3
  | .lineIoFailed => 0b011#3
  | .insufficientData => 0b100#3
  | .noValidFrame => 0b101#3
  | .reserved6 => 0b110#3
  | .reserved7 => 0b111#3

/-- The two codes that the block never writes (R73, X8). -/
def Status.isReserved : Status → Bool
  | .reserved6 | .reserved7 => true
  | .noAttempt | .busy | .ok | .lineIoFailed | .insufficientData | .noValidFrame => false

/-- R75: `{EDGE_KIND[i], EDGE_TS[i][TS_W-1:0]}` as a number of `TS_W + 1` bits: the inspection port's combined
view of an entry. -/
def EdgeEvent.packed (p : Params) (e : EdgeEvent) : Nat := e.kind.toNat * 2 ^ p.tsW + fitTs p e.ts

/-! ### A window and its fields -/

/-- The bits of a list as one number, the first the most significant (R56, R57). -/
def packBits (bs : List Bool) : Nat := bs.foldl (fun acc b => 2 * acc + b.toNat) 0

/-- The 40 bits at offset `k` of a bit sequence, the first in bit 39: `W[39 - m] = B[k + m]` (R57). -/
def windowOf (bs : List Bool) (k : Nat) : FrameWord := BitVec.ofNat 40 (packBits ((bs.drop k).take frameBits))

/-- `B_j = W[39-8j : 32-8j]` for `j = 0 .. 4` (R57, R77). -/
def frameByte (w : FrameWord) (j : Nat) : Byte := w.extractLsb' (32 - 8 * j) 8

/-- `sum8 = (B_0 + B_1 + B_2 + B_3) mod 256` (R77, R9). -/
def sum8 (w : FrameWord) : Byte := frameByte w 0 + frameByte w 1 + frameByte w 2 + frameByte w 3

/-- `ck_ok = (sum8 == B_4)` (R77, R161). -/
def checksumOk (w : FrameWord) : Bool := sum8 w == frameByte w 4

/-- `hum = {B_0, B_1}` (R58, R77). -/
def humidityOf (w : FrameWord) : Tenths := frameByte w 0 ++ frameByte w 1

/-- `tsign = B_2[7]` (R77). -/
def tempSignOf (w : FrameWord) : Bool := (frameByte w 2).getLsbD 7

/-- `tmag = {B_2[6:0], B_3}` (R77). -/
def tempMagnitudeOf (w : FrameWord) : BitVec 15 := (frameByte w 2).extractLsb' 0 7 ++ frameByte w 3

/-- `temp16 = if tsign == 1 then -_16 zext_16(tmag) else zext_16(tmag)` (R77, R166). -/
def temperatureOf (w : FrameWord) : Tenths :=
  if tempSignOf w then -((tempMagnitudeOf w).zeroExtend 16) else (tempMagnitudeOf w).zeroExtend 16

/-! ### A pulse -/

/-- `d = EDGE_TS[i+1] - EDGE_TS[i]`, exact (R10, R141; log 12). -/
def pulseDuration (first second : EdgeEvent) : Int := (second.ts : Int) - (first.ts : Int)

/-- R142: 1 if `d > THRESH_TICKS`, 0 if `d <= THRESH_TICKS`. -/
def pulseBit (p : Params) (d : Int) : Bool := decide ((threshTicks p : Int) < d)

end Sys2Proof.Machine
end

