-- ==== Sys2Proof/Machine/Ops.lean ====
section
/-! DEFINITION. The shared operations: the buffer primitives of R52, R54 and R57, ending an attempt with an
outcome (R192, the block's form of taking an exception), beginning one (R100, R194: there is no other return),
and the named updates the meanings are written with. An operation that the spec calls a model fault where its
requirement fails answers an error by name. -/

namespace Sys2Proof.Machine

/-- What a step and a meaning answer. -/
abbrev Result := Host.Outcome State Fault Refusal

/-- An operation's answer as a meaning's. -/
def ofExcept : Except Fault State → Result
  | .ok s => .next s
  | .error f => .fault f

/-- Go on from a next state; a stop stays. -/
def andThen (r : Result) (f : State → Result) : Result :=
  match r with
  | .next s => f s
  | .fault e => .fault e
  | .refused e => .refused e

/-- The next state, if there is one. -/
def nextState : Result → Option State
  | .next s => some s
  | .fault _ => none
  | .refused _ => none

/-! ### Counts -/

/-- `EDGE_COUNT`: the length of the Edge Sequence (R25). -/
def State.edgeCount (s : State) : Nat := s.edges.length

/-- `BIT_COUNT`: the length of the Bit Sequence (R28). -/
def State.bitCount (s : State) : Nat := s.bits.length

/-! ### Named updates -/

/-- `PHASE <- IDLE; STATUS <- code` (R11, R192): how every outcome, good or bad, ends an attempt. It writes
nothing else. -/
def State.finish (s : State) (code : Status) : State := { s with phase := .idle, status := code }

/-- Every state element at its reset value (R39, R104). The instance's parameters and the environment's fields
are no state elements (R20). -/
def State.resetElements (s : State) : State := { State.resetWith s.params s.stimulus with cycle := s.cycle }

/-- The writes of START (R100). The old buffer entries become entries that hold no value. -/
def State.beginAttempt (s : State) : State :=
  { s with
    phase := .capture, status := .busy, elapsed := 0, lastLevel := false, haveLast := false, edges := [],
    clsIdx := 0, bits := [], winOff := 0, rejects := 0 }

/-- `HOST_VIOL <- 1` (R102). -/
def State.markViolation (s : State) : State := { s with hostViol := true }

/-- `LAST_LEVEL <- L; HAVE_LAST <- 1` (R123). -/
def State.seedLevel (s : State) (level : Bool) : State := { s with lastLevel := level, haveLast := true }

/-- `LAST_LEVEL <- L` (R124). -/
def State.noteLevel (s : State) (level : Bool) : State := { s with lastLevel := level }

/-- `ELAPSED <- e + 1` (R121). -/
def State.tickElapsed (s : State) : State := { s with elapsed := fitTs s.params (s.elapsed + 1) }

/-- `PHASE <- CLASSIFY; CLS_IDX <- 0` (R121). -/
def State.enterClassify (s : State) : State := { s with phase := .classify, clsIdx := 0 }

/-- `CLS_IDX <- i + 1` (R143, R144). -/
def State.nextPair (s : State) : State := { s with clsIdx := fitCount s.params (s.clsIdx + 1) }

/-- `PHASE <- DECODE; WIN_OFF <- 0` (R145). -/
def State.enterDecode (s : State) : State := { s with phase := .decode, winOff := 0 }

/-- `REJECTS <- REJECTS + 1; WIN_OFF <- k + 1` (R167). -/
def State.rejectWindow (s : State) : State :=
  { s with rejects := fitCount s.params (s.rejects + 1), winOff := fitCount s.params (s.winOff + 1) }

/-- The result writes of DEC_MATCH, for the accepted window `w` (R166). -/
def State.storeReading (s : State) (w : FrameWord) : State :=
  { s with
    resFrame := w, resHum := humidityOf w, resTsign := tempSignOf w, resTemp := temperatureOf w,
    resOff := s.winOff, haveReading := true }

/-- A new last entry of the edge buffer. Its timestamp is `TS_W` bits (R52). -/
def State.pushEdge (s : State) (ts : Nat) (kind : Bool) : State :=
  { s with edges := s.edges ++ [{ ts := fitTs s.params ts, kind := kind }] }

/-- A new last entry of the bit buffer. -/
def State.pushBit (s : State) (b : Bool) : State := { s with bits := s.bits ++ [b] }

/-- After an edge: the sampled input word is gone and the edge is counted (log 2). -/
def State.advance (s : State) : State := { s with stimulus := s.stimulus.tail, cycle := s.cycle + 1 }

/-! ### Buffer primitives -/

/-- `EdgeAppend(ts, kind)`: requires `EDGE_COUNT < MAX_EDGES` (R52). -/
def edgeAppend (s : State) (ts : Nat) (kind : Bool) : Except Fault State :=
  if s.edgeCount < s.params.maxEdges then .ok (s.pushEdge ts kind) else .error .edgeBufferFull

/-- `EdgeRead(i)`: requires `i < EDGE_COUNT` (R52). -/
def edgeRead (s : State) (i : Nat) : Except Fault EdgeEvent :=
  match s.edges[i]? with
  | some e => .ok e
  | none => .error .edgeHoldsNoValue

/-- `BitAppend(b)`: requires `BIT_COUNT < BIT_CAP` (R54). -/
def bitAppend (s : State) (b : Bool) : Except Fault State :=
  if s.bitCount < bitCap s.params then .ok (s.pushBit b) else .error .bitBufferFull

/-- `BitRead(j)`: requires `j < BIT_COUNT` (R54). -/
def bitRead (s : State) (j : Nat) : Except Fault Bool :=
  match s.bits[j]? with
  | some b => .ok b
  | none => .error .bitHoldsNoValue

/-- `Window(k)`: forty BitReads, for `k + 40 <= BIT_COUNT` (R57, R162). -/
def readWindow (s : State) (k : Nat) : Except Fault FrameWord :=
  if k + frameBits ≤ s.bitCount then .ok (windowOf s.bits k) else .error .bitHoldsNoValue

/-- The buffers keep their form: no more entries than their capacities (R25, R28, R51, R53). -/
def State.buffersWf (s : State) : Bool :=
  decide (s.edges.length ≤ s.params.maxEdges) && decide (s.bits.length ≤ bitCap s.params)

end Sys2Proof.Machine
end

