-- ==== Sys2Proof/Machine/Flags.lean ====
section
/-! DEFINITION. The conditions of a cycle, bit by bit of the step selector (R80), and the packed status word
(R78). Each is read from the state before the edge and this edge's inputs. -/

namespace Sys2Proof.Machine

/-- `busy = (PHASE != IDLE)` (R36, R71). -/
def State.busyFlag (s : State) : Bool :=
  match s.phase with
  | .idle => false
  | .capture | .classify | .decode => true

/-- SEL bit 5: `in.line_level != LAST_LEVEL` (R80). -/
def State.changed (s : State) : Bool := s.pins.lineLevel != s.lastLevel

/-- SEL bit 6: `CLS_IDX + 1 < EDGE_COUNT` (R80, R140). -/
def State.pairAvail (s : State) : Bool := decide (s.clsIdx + 1 < s.edgeCount)

/-- SEL bit 7: `pair_avail AND EDGE_KIND[CLS_IDX + 1] == 0`, else 0 (R80). -/
def State.secondFalling (s : State) : Bool :=
  s.pairAvail &&
    match edgeRead s (s.clsIdx + 1) with
    | .ok e => !e.kind
    | .error _ => false

/-- SEL bit 8: `BIT_COUNT < 40` (R80). -/
def State.tooFewBits (s : State) : Bool := decide (s.bitCount < frameBits)

/-- SEL bit 9: `WIN_OFF + 40 <= BIT_COUNT` (R80, R162). -/
def State.winAvail (s : State) : Bool := decide (s.winOff + frameBits ≤ s.bitCount)

/-- SEL bit 10: `win_avail AND ck_ok(Window(WIN_OFF))`, else 0 (R80). -/
def State.windowOk (s : State) : Bool :=
  s.winAvail &&
    match readWindow s s.winOff with
    | .ok w => checksumOk w
    | .error _ => false

/-- SEL bit 11: `in.start AND PHASE != IDLE` (R80). -/
def State.startWhileBusy (s : State) : Bool := s.pins.start && s.busyFlag

/-- The 13 bits of SEL, from bit 12 down (R80). -/
def selWord (rst busyStart ckOk winAvail short secondFalling pairAvail changed haveLast lineErr start : Bool)
    (phase : Phase) : SelWord :=
  BitVec.ofBool rst ++ BitVec.ofBool busyStart ++ BitVec.ofBool ckOk ++ BitVec.ofBool winAvail ++
    BitVec.ofBool short ++ BitVec.ofBool secondFalling ++ BitVec.ofBool pairAvail ++ BitVec.ofBool changed ++
    BitVec.ofBool haveLast ++ BitVec.ofBool lineErr ++ BitVec.ofBool start ++ phase.code

/-- `SEL`: the step-selector word of this cycle (R80). -/
def State.sel (s : State) : SelWord :=
  selWord s.pins.rst s.startWhileBusy s.windowOk s.winAvail s.tooFewBits s.secondFalling s.pairAvail s.changed
    s.haveLast s.pins.lineErr s.pins.start s.phase

/-- R82, R193: the order in which the conditions split a phase into its primary rows. The step does not use it
(it decodes SEL by match and mask); Laws/Step.lean proves that the two agree. -/
def rowOfConditions (ckOk winAvail short secondFalling pairAvail changed haveLast lineErr start : Bool) :
    Phase → Instr
  | .idle => if start then .start else .idleHold
  | .capture => if lineErr then .capAbort else if haveLast then if changed then .capEdge else .capSame else .capSeed
  | .classify => if pairAvail then if secondFalling then .clsPairFall else .clsPairRise else .clsEnd
  | .decode =>
    if short then .decInsuf else if winAvail then if ckOk then .decMatch else .decMismatch else .decExhaust

/-- The primary row that the conditions of `s` select where `rst` is 0 (R82). -/
def State.row (s : State) : Instr :=
  rowOfConditions s.windowOk s.winAvail s.tooFewBits s.secondFalling s.pairAvail s.changed s.haveLast
    s.pins.lineErr s.pins.start s.phase

/-- `status_word[7:0]`: busy, HOST_VIOL, HAVE_READING, STATUS, PHASE from bit 7 down (R78). -/
def State.statusWord (s : State) : BitVec 8 :=
  BitVec.ofBool s.busyFlag ++ BitVec.ofBool s.hostViol ++ BitVec.ofBool s.haveReading ++ s.status.code ++
    s.phase.code

end Sys2Proof.Machine
end

