-- ==== Sys2Proof/Machine/Control.lean ====
section
/-! DEFINITION. Attempt control: RESET, START, IDLE_HOLD, BUSY_START (40_control.md). A meaning is its rule's
pseudocode; the condition under which the row runs is the selector's (R80, R105; assumption log 13). -/

namespace Sys2Proof.Machine

/-- RESET (R104): every state element takes its reset value. -/
def execReset (s : State) : Result := .next s.resetElements

/-- START (R100): begin an attempt. The last reading, HAVE_READING and HOST_VIOL stay. -/
def execStart (s : State) : Result := .next s.beginAttempt

/-- IDLE_HOLD (R101): no state element is written. -/
def execIdleHold (s : State) : Result := .next s

/-- BUSY_START (R102): `HOST_VIOL <- 1`, and nothing else. -/
def execBusyStart (s : State) : Result := .next s.markViolation

end Sys2Proof.Machine
end

