-- ==== Sys2Proof/Machine/EdgeCapture.lean ====
section
/-! DEFINITION. The edge capture stage: CAP_ABORT, CAP_SEED, CAP_EDGE, CAP_SAME (41_edge_capture.md). -/

namespace Sys2Proof.Machine

/-- The tail of every poll (R121), in the state after the cycle's own append: time advances, and capture ends
where the buffer is full or this was the poll at `CAPTURE_TICKS`. -/
def captureTail (s : State) : State :=
  if s.edgeCount = s.params.maxEdges ∨ s.elapsed = s.params.captureTicks then s.tickElapsed.enterClassify
  else s.tickElapsed

/-- CAP_ABORT (R122): the line could not be read. No sample is taken. -/
def execCapAbort (s : State) : Result := .next (s.finish .lineIoFailed)

/-- CAP_SEED (R123): the first poll gives the level to compare against, and no edge. -/
def execCapSeed (s : State) : Result := .next (captureTail (s.seedLevel s.pins.lineLevel))

/-- CAP_EDGE (R124): the level changed; the poll's time and the new level are appended. -/
def execCapEdge (s : State) : Result :=
  match edgeAppend s s.elapsed s.pins.lineLevel with
  | .ok t => .next (captureTail (t.noteLevel s.pins.lineLevel))
  | .error f => .fault f

/-- CAP_SAME (R125): no change, no edge. -/
def execCapSame (s : State) : Result := .next (captureTail s)

end Sys2Proof.Machine
end

