-- ==== Sys2Proof/Machine/FrameDecoder.lean ====
section
/-! DEFINITION. The frame decoder stage: DEC_INSUF, DEC_EXHAUST, DEC_MATCH, DEC_MISMATCH
(43_frame_decoder.md). -/

namespace Sys2Proof.Machine

/-- DEC_INSUF (R164): too few bits to hold a frame. -/
def execDecInsuf (s : State) : Result := .next (s.finish .insufficientData)

/-- DEC_EXHAUST (R165): every window failed. -/
def execDecExhaust (s : State) : Result := .next (s.finish .noValidFrame)

/-- DEC_MATCH (R166): the window passes its checksum; its fields are the reading. -/
def execDecMatch (s : State) : Result :=
  match readWindow s s.winOff with
  | .ok w => .next ((s.storeReading w).finish .ok)
  | .error f => .fault f

/-- DEC_MISMATCH (R167): the window was read and fails its checksum; the next one is a bit further on. -/
def execDecMismatch (s : State) : Result :=
  match readWindow s s.winOff with
  | .ok _ => .next s.rejectWindow
  | .error f => .fault f

end Sys2Proof.Machine
end

