-- ==== Sys2Proof/Machine/PulseClassifier.lean ====
section
/-! DEFINITION. The pulse-duration classifier stage: CLS_PAIR_FALL, CLS_PAIR_RISE, CLS_END
(42_pulse_classifier.md). -/

namespace Sys2Proof.Machine

/-- CLS_PAIR_FALL (R143): the pair's duration is classified and its bit appended. -/
def execClsPairFall (s : State) : Result :=
  match edgeRead s s.clsIdx, edgeRead s (s.clsIdx + 1) with
  | .ok first, .ok second =>
    match bitAppend s (pulseBit s.params (pulseDuration first second)) with
    | .ok t => .next t.nextPair
    | .error f => .fault f
  | .error f, _ => .fault f
  | .ok _, .error f => .fault f

/-- CLS_PAIR_RISE (R144): the pair yields nothing. -/
def execClsPairRise (s : State) : Result := .next s.nextPair

/-- CLS_END (R145): every pair has been examined. -/
def execClsEnd (s : State) : Result := .next s.enterDecode

end Sys2Proof.Machine
end

