-- ==== Sys2Proof/Machine/Dispatch.lean ====
section
/-! DEFINITION. One arm per operation: the rows of R83 and their meanings. -/

namespace Sys2Proof.Machine

def exec (i : Instr) (s : State) : Host.Outcome State Fault Refusal :=
  match i with
  | .reset => Sys2Proof.Machine.execReset s
  | .start => Sys2Proof.Machine.execStart s
  | .idleHold => Sys2Proof.Machine.execIdleHold s
  | .busyStart => Sys2Proof.Machine.execBusyStart s
  | .capAbort => Sys2Proof.Machine.execCapAbort s
  | .capSeed => Sys2Proof.Machine.execCapSeed s
  | .capEdge => Sys2Proof.Machine.execCapEdge s
  | .capSame => Sys2Proof.Machine.execCapSame s
  | .clsPairFall => Sys2Proof.Machine.execClsPairFall s
  | .clsPairRise => Sys2Proof.Machine.execClsPairRise s
  | .clsEnd => Sys2Proof.Machine.execClsEnd s
  | .decInsuf => Sys2Proof.Machine.execDecInsuf s
  | .decExhaust => Sys2Proof.Machine.execDecExhaust s
  | .decMatch => Sys2Proof.Machine.execDecMatch s
  | .decMismatch => Sys2Proof.Machine.execDecMismatch s

end Sys2Proof.Machine
end

