-- ==== Sys2Proof/Machine/Cycle.lean ====
section
/-! DEFINITION. The step composition of R105, with the two checks that stand before it, and how a selector word
is made the next cycle's. -/

namespace Sys2Proof.Machine

/-- What one cycle runs: RESET alone; or the primary operation and then, where its row matches, BUSY_START,
which writes only HOST_VIOL, a register no primary operation writes (R105). -/
def runSelection (sel : Selection) (s : State) : Result :=
  match sel with
  | .override => exec .reset s
  | .run i true => andThen (exec i s) (exec .busyStart)
  | .run i false => exec i s

/-- One rising edge of `clk` (R105). A configuration that breaks R8 is refused (X14); a state whose STATUS holds
a reserved code is an error in the model, but for `rst = 1`, which takes any state to the reset state (X8,
R220; assumption log 6). -/
def cycleStep (s : State) : Result :=
  if s.params.WellFormed then
    match decode s.sel with
    | .ok .override => andThen (runSelection .override s) (fun t => .next t.advance)
    | .ok (.run i side) =>
      if s.status.isReserved then .fault .reservedStatus
      else andThen (runSelection (.run i side) s) (fun t => .next t.advance)
    | .error _ => .refused .noRow
  else .refused .badConfiguration

/-! ### Making a selector word the next cycle's

`SEL` is no stored word: a cycle forms it from the state and the inputs (R81). These give a state and an input
word from which the next cycle forms the bits that the row of the word's phase tests (assumption log 9). -/

/-- The phase a word's bits 1:0 name. A word that is the side row's alone names a phase of an attempt: CAPTURE
where it says IDLE. -/
def wordPhase (w : SelWord) : Phase :=
  match w.getLsbD 1, w.getLsbD 0 with
  | false, false => if sideAlone w then .capture else .idle
  | false, true => .capture
  | true, false => .classify
  | true, true => .decode

/-- The input word that gives bits 12, 3 and 2 of the word, and bit 5 against the LAST_LEVEL of `s`. -/
def wordInputs (w : SelWord) (s : State) : InWord :=
  Pins.toWord
    { rst := w.getLsbD 12, start := w.getLsbD 2 || sideAlone w, lineErr := w.getLsbD 3,
      lineLevel := s.lastLevel != w.getLsbD 5 }

/-- An edge buffer whose first pair is as bits 6 and 7 say. -/
def wordEdges (w : SelWord) : List EdgeEvent :=
  if w.getLsbD 6 then [{ ts := 0, kind := w.getLsbD 7 }, { ts := 1, kind := !w.getLsbD 7 }] else []

/-- A bit buffer that is as bits 8, 9 and 10 say at the offset that `wordOffset` gives: too few bits, or forty
zeros, whose checksum holds (R171), or forty bits of which only the last is 1, whose checksum fails. -/
def wordBits (w : SelWord) : List Bool :=
  if w.getLsbD 8 then [] else List.replicate 39 false ++ [w.getLsbD 9 && !w.getLsbD 10]

/-- Offset 0 where a window is to be available, 1 where none is left. -/
def wordOffset (w : SelWord) : Nat := if w.getLsbD 9 || w.getLsbD 8 then 0 else 1

/-- `s` with what the next cycle needs so that its selector has the bits the word's row tests: the next input
word, PHASE, and of the state elements only those that a row of that phase tests. -/
def arrangeSel (s : State) (w : SelWord) : State :=
  let t := { s with stimulus := wordInputs w s :: s.stimulus.tail, phase := wordPhase w }
  match wordPhase w with
  | .idle => t
  | .capture => { t with haveLast := w.getLsbD 4 }
  | .classify => { t with edges := wordEdges w, clsIdx := 0 }
  | .decode => { t with bits := wordBits w, winOff := wordOffset w }

end Sys2Proof.Machine
end

