-- ==== Sys2Proof/Machine/Step.lean ====
section
/-! DEFINITION. One step is one rising edge of `clk` (R105). -/

namespace Sys2Proof.Machine

/-- One step of the machine (R105). -/
def step (s : State) : Host.Outcome State Fault Refusal := cycleStep s

/-- `s`, made so that the next step's selector is the word `w` in the bits its row tests: the block fetches
nothing, so this sets the next input word and the state elements that those bits are formed from
(R80, R81; assumption log 9). -/
def State.withFetchWord (s : State) (nbits w : Nat) : State := arrangeSel s (BitVec.ofNat 13 (w % 2 ^ nbits))

/-- `n` steps, stopping at the first fault or refusal. -/
def steps : Nat → State → Host.Outcome State Fault Refusal
  | 0, s => .next s
  | n + 1, s => andThen (step s) (steps n)

end Sys2Proof.Machine
end

