-- ==== Sys2Proof/Machine/Functional.lean ====
section
/-! DEFINITION. The functional forms of the three stages: the Edge Sequence of the sampled levels (R129), the Bit
Sequence of an Edge Sequence (R148), the decoding of a Bit Sequence (R169), and the cycle counts (R147, R168,
R223). No operation calls them: statements compare the stepwise operations with them. -/

namespace Sys2Proof.Machine

/-- The level changes at `e = 1 .. m` of the levels sampled at `e = 0 .. m`: the list of `(e, L_e)` with
`L_e != L_{e-1}` (R129). -/
def levelChanges (level : Nat → Bool) (m : Nat) : List EdgeEvent :=
  ((List.range' 1 m).filter (fun e => level e != level (e - 1))).map (fun e => { ts := e, kind := level e })

/-- R129: the Edge Sequence of a capture, cut after its `MAX_EDGES`-th element. -/
def edgesOfLevels (p : Params) (level : Nat → Bool) : List EdgeEvent :=
  (levelChanges level p.captureTicks).take p.maxEdges

/-- R129: the last poll is the smaller of CAPTURE_TICKS and the time of the `MAX_EDGES`-th change. -/
def lastPoll (p : Params) (level : Nat → Bool) : Nat :=
  match (levelChanges level p.captureTicks)[p.maxEdges - 1]? with
  | some e => e.ts
  | none => p.captureTicks

/-- R148: one bit for each pair of consecutive edges whose second is falling, in order. -/
def bitsOfEdges (p : Params) : List EdgeEvent → List Bool
  | a :: b :: rest =>
    if b.kind then bitsOfEdges p (b :: rest)
    else pulseBit p (pulseDuration a b) :: bitsOfEdges p (b :: rest)
  | [_] => []
  | [] => []

/-- How many edges after the first one are falling (R38 (e), R146 (a)). -/
def fallingAfterFirst (edges : List EdgeEvent) : Nat := (edges.tail.filter (fun e => !e.kind)).length

/-- What a Bit Sequence decodes to (R169). -/
inductive Decoded where
  | insufficientData
  /-- The accepted window and its offset, which is also the number of rejected windows. -/
  | reading (frame : FrameWord) (offset : Nat)
  | noValidFrame (rejects : Nat)
deriving DecidableEq, Repr

/-- The least offset in `0 .. len(B) - 40` whose window passes its checksum (R161, R169). -/
def firstValid (bs : List Bool) : Option Nat :=
  (List.range (bs.length - 39)).find? (fun k => checksumOk (windowOf bs k))

/-- `Decode(B)` (R169). -/
def decodeBits (bs : List Bool) : Decoded :=
  if bs.length < frameBits then .insufficientData
  else
    match firstValid bs with
    | some k => .reading (windowOf bs k) k
    | none => .noValidFrame (bs.length - 39)

/-- R147: CLASSIFY takes `max(EDGE_COUNT - 1, 0)` pair cycles and one CLS_END cycle. -/
def classifyCycles (edges : List EdgeEvent) : Nat := (edges.length - 1) + 1

/-- R168: DECODE takes 1 cycle, or one more than the number of rejected windows. -/
def decodeCycles (bs : List Bool) : Nat :=
  match decodeBits bs with
  | .insufficientData => 1
  | .reading _ k => k + 1
  | .noValidFrame r => r + 1

/-- R223: an attempt without a read failure takes `1 + C + K + D` cycles from START to its end state. -/
def attemptCycles (p : Params) (level : Nat → Bool) : Nat :=
  1 + (lastPoll p level + 1) + classifyCycles (edgesOfLevels p level) +
    decodeCycles (bitsOfEdges p (edgesOfLevels p level))

end Sys2Proof.Machine
end

