-- ==== Sys2Proof/Machine/Ports.lean ====
section
/-! DEFINITION. The output ports, the inspection ports and what the host reads of an attempt
(R71, R78, R79, R106, R196). Every one is a function of the state; none reads the inputs of the cycle. -/

namespace Sys2Proof.Machine

/-- The output ports of R71. -/
structure Outputs where
  busy : Bool
  phase : BitVec 2
  status : BitVec 3
  haveReading : Bool
  hostViol : Bool
  statusWord : BitVec 8
  humidityX10 : Tenths
  temperatureX10 : Tenths
  tempSign : Bool
  frame : FrameWord
  frameOffset : Nat
  edgeCount : Nat
  bitCount : Nat
  rejects : Nat
  elapsed : Nat
  dbgEdgeValid : Bool
  dbgEdgeTs : Nat
  dbgEdgeKind : Bool
  dbgBitValid : Bool
  dbgBit : Bool
deriving DecidableEq, Repr

/-- `dbg_edge_valid`, `dbg_edge_ts` and `dbg_edge_kind` at an index (R79). At an index that is not valid the two
data outputs are free values (X7; log 10). -/
def State.inspectEdge (s : State) (idx : Nat) : Bool × Nat × Bool :=
  match edgeRead s idx with
  | .ok e => (true, e.ts, e.kind)
  | .error _ => (false, fitTs s.params (Config.freeEdgeTs s.cycle idx), Config.freeEdgeKind s.cycle idx)

/-- `dbg_bit_valid` and `dbg_bit` at an index (R79). At an index that is not valid the data output is a free
value (X7; log 10). -/
def State.inspectBit (s : State) (idx : Nat) : Bool × Bool :=
  match bitRead s idx with
  | .ok b => (true, b)
  | .error _ => (false, Config.freeBit s.cycle idx)

/-- The combined view of an edge entry, `TS_W + 1` bits (R75), at a valid index. -/
def State.inspectEdgePacked (s : State) (idx : Nat) : Option Nat :=
  match edgeRead s idx with
  | .ok e => some (e.packed s.params)
  | .error _ => none

/-- The output ports, with the `CW`-bit inspection indices the host presents (R70, R71). -/
def State.outputs (s : State) (dbgEdgeIdx dbgBitIdx : Nat) : Outputs where
  busy := s.busyFlag
  phase := s.phase.code
  status := s.status.code
  haveReading := s.haveReading
  hostViol := s.hostViol
  statusWord := s.statusWord
  humidityX10 := s.resHum
  temperatureX10 := s.resTemp
  tempSign := s.resTsign
  frame := s.resFrame
  frameOffset := s.resOff
  edgeCount := s.edgeCount
  bitCount := s.bitCount
  rejects := s.rejects
  elapsed := s.elapsed
  dbgEdgeValid := (s.inspectEdge (fitCount s.params dbgEdgeIdx)).1
  dbgEdgeTs := (s.inspectEdge (fitCount s.params dbgEdgeIdx)).2.1
  dbgEdgeKind := (s.inspectEdge (fitCount s.params dbgEdgeIdx)).2.2
  dbgBitValid := (s.inspectBit (fitCount s.params dbgBitIdx)).1
  dbgBit := (s.inspectBit (fitCount s.params dbgBitIdx)).2

/-- A Reading in tenths: temperature signed, humidity unsigned (R14, R31, R196). -/
structure Reading where
  temperatureTenths : Int
  humidityTenths : Nat
deriving DecidableEq, Repr

/-- What the source's operation returns at the end of an attempt: `Some(Reading)` if STATUS is OK, else `None`
(R196). -/
def State.attemptResult (s : State) : Option Reading :=
  match s.status with
  | .ok => some { temperatureTenths := s.resTemp.toInt, humidityTenths := s.resHum.toNat }
  | .noAttempt | .busy | .lineIoFailed | .insufficientData | .noValidFrame | .reserved6 | .reserved7 => none

/-- What an attempt's end state shows of it: its STATUS, RES_*, HAVE_READING, HOST_VIOL and counts (R106). -/
structure AttemptObservation where
  status : Status
  resHum : Tenths
  resTemp : Tenths
  resTsign : Bool
  resFrame : FrameWord
  resOff : Nat
  haveReading : Bool
  hostViol : Bool
  edgeCount : Nat
  bitCount : Nat
  rejects : Nat
deriving DecidableEq, Repr

/-- The observation that a state gives, if it is an attempt's end state (R106). -/
def State.observation (s : State) : AttemptObservation where
  status := s.status
  resHum := s.resHum
  resTemp := s.resTemp
  resTsign := s.resTsign
  resFrame := s.resFrame
  resOff := s.resOff
  haveReading := s.haveReading
  hostViol := s.hostViol
  edgeCount := s.edgeCount
  bitCount := s.bitCount
  rejects := s.rejects

/-- The consumer's exact decimal of a value in tenths (R196; done outside the block). -/
def tenthsToDecimal (t : Int) : Rat := mkRat t 10

end Sys2Proof.Machine
end

