-- ==== Sys2Proof/Safety.lean ====
section
/-! DEFINITION. What counts as a safe run, in the terms the statements use: the invariants of R38 and of the
stages' results, reachable states, the inputs of a run, and the host's duties (R197). -/

namespace Sys2Proof.Machine

/-! ### Invariants -/

/-- The invariants of R38, (a) to (i), with the bounds of the rules beside them that make them kept by every
step: R8, R22, R23, R24, R27, R29, R35, R121, R123, R163. -/
structure AttemptInv (s : State) : Prop where
  /-- R8. -/
  config : s.params.WellFormed
  /-- R73: no reserved STATUS. -/
  statusLegal : s.status.isReserved = false
  /-- R22: STATUS is BUSY while an attempt runs, and only then. -/
  busyWhileRunning : s.status = .busy ↔ s.phase ≠ .idle
  /-- R38 (a). -/
  edgesFit : s.edgeCount ≤ s.params.maxEdges
  /-- R38 (a). -/
  bitsFit : s.bitCount ≤ s.edgeCount - 1 ∧ s.edgeCount - 1 ≤ bitCap s.params
  /-- R38 (b). -/
  timesRise : ∀ i a b, s.edges[i]? = some a → s.edges[i + 1]? = some b → a.ts < b.ts
  /-- R38 (b). -/
  timesPast : ∀ e ∈ s.edges, e.ts < s.elapsed
  /-- R38 (c), R128. -/
  kindsAlternate : ∀ i a b, s.edges[i]? = some a → s.edges[i + 1]? = some b → b.kind = !a.kind
  /-- R38 (d). -/
  lastIsLevel : s.haveLast = true → ∀ e, s.edges.getLast? = some e → s.lastLevel = e.kind
  /-- R24: no edge before the first sample. -/
  noEdgeUnseeded : s.haveLast = false → s.edges = []
  /-- R35. -/
  elapsedBound : s.elapsed ≤ s.params.captureTicks + 1
  /-- R121: capture has not ended. -/
  captureOpen : s.phase = .capture → s.elapsed ≤ s.params.captureTicks ∧ s.edgeCount < s.params.maxEdges
  /-- R123: the first poll is at 0. -/
  seedAtZero : s.phase = .capture → s.haveLast = false → s.elapsed = 0
  /-- R100: nothing is classified during capture. -/
  noBitsInCapture : s.phase = .capture → s.bits = []
  /-- R27. -/
  pairIndexBound : s.clsIdx ≤ s.edgeCount - 1
  /-- R38 (e). -/
  bitsCountFalls : s.phase = .classify → s.bitCount = fallingAfterFirst (s.edges.take (s.clsIdx + 1))
  /-- R38 (f), R146 (c). -/
  bitsHalfEdges : s.bitCount ≤ s.edgeCount / 2
  /-- R38 (g), kept in IDLE too. -/
  rejectsAreOffset : s.rejects = s.winOff
  /-- R100, R145: no window before DECODE. -/
  noWindowYet : s.phase = .capture ∨ s.phase = .classify → s.winOff = 0
  /-- R163. -/
  offsetBound : s.winOff ≤ s.bitCount - 39
  /-- R38 (h). -/
  okHasReading : s.phase = .idle → s.status = .ok → s.haveReading = true
  /-- R38 (i). -/
  noReadingZero : s.haveReading = false →
    s.resHum = 0#16 ∧ s.resTemp = 0#16 ∧ s.resTsign = false ∧ s.resFrame = 0#40 ∧ s.resOff = 0
  /-- R31: the accepted window lay in the Bit Sequence. -/
  resultOffsetBound : s.haveReading = true → s.resOff + 40 ≤ bitCap s.params

/-- Every register whose width is a parameter holds a value of that width (R10, R23 to R31). -/
structure RegistersFit (s : State) : Prop where
  elapsed : s.elapsed < 2 ^ s.params.tsW
  times : ∀ e ∈ s.edges, e.ts < 2 ^ s.params.tsW
  edgeCount : s.edgeCount < 2 ^ countWidth s.params
  clsIdx : s.clsIdx < 2 ^ countWidth s.params
  bitCount : s.bitCount < 2 ^ countWidth s.params
  winOff : s.winOff < 2 ^ countWidth s.params
  rejects : s.rejects < 2 ^ countWidth s.params
  resOff : s.resOff < 2 ^ countWidth s.params

/-- What the stages have computed so far is what the functional forms say (R148, R161, R166, R169). -/
structure StageInv (s : State) : Prop where
  /-- R148, in progress: the pairs examined so far. -/
  classifying : s.phase = .classify → s.bits = bitsOfEdges s.params (s.edges.take (s.clsIdx + 1))
  /-- R148. -/
  classified : s.phase = .decode → s.bits = bitsOfEdges s.params s.edges
  /-- R160, R161: every window passed over failed its checksum. -/
  rejected : s.phase = .decode → ∀ k, k < s.winOff → checksumOk (windowOf s.bits k) = false
  /-- R166: the results are one frame's, and its checksum holds. -/
  readingWhole : s.haveReading = true →
    checksumOk s.resFrame = true ∧ s.resHum = humidityOf s.resFrame ∧ s.resTemp = temperatureOf s.resFrame ∧
      s.resTsign = tempSignOf s.resFrame
  /-- R169: an attempt that ended in OK. -/
  okIsDecoded : s.phase = .idle → s.status = .ok →
    s.bits = bitsOfEdges s.params s.edges ∧ decodeBits s.bits = .reading s.resFrame s.resOff ∧
      s.rejects = s.resOff
  /-- R169: an attempt that ended in INSUFFICIENT_DATA. -/
  insufficientIsDecoded : s.phase = .idle → s.status = .insufficientData →
    s.bits = bitsOfEdges s.params s.edges ∧ decodeBits s.bits = .insufficientData ∧ s.rejects = 0
  /-- R169: an attempt that ended in NO_VALID_FRAME. -/
  noFrameIsDecoded : s.phase = .idle → s.status = .noValidFrame →
    s.bits = bitsOfEdges s.params s.edges ∧ decodeBits s.bits = .noValidFrame s.rejects

/-! ### Runs -/

/-- The states some run from reset comes to, of some legal configuration and under some inputs (R38). -/
inductive Reachable : State → Prop where
  | atReset (p : Params) (inputs : List InWord) (legal : p.WellFormed) :
      Reachable (State.resetWith p inputs)
  | afterStep (s t : State) (before : Reachable s) (stepped : step s = .next t) : Reachable t

/-- The next `n` input words do not reset the block. -/
def NoResetFor (s : State) (n : Nat) : Prop := ∀ k, k < n → (Pins.ofWord (s.inputAt k)).rst = false

/-- The next `n` input words report no read failure. -/
def NoReadFailureFor (s : State) (n : Nat) : Prop := ∀ k, k < n → (Pins.ofWord (s.inputAt k)).lineErr = false

/-- The level that the `k`-th coming edge samples. -/
def sampledLevel (s : State) (k : Nat) : Bool := (Pins.ofWord (s.inputAt k)).lineLevel

/-- A step that did not stop. -/
def Completes (r : Result) : Prop := ∃ t, r = .next t

/-- `s` with `w` as the next edge's input word. -/
def State.presenting (s : State) (w : InWord) : State := { s with stimulus := w :: s.stimulus.tail }

/-- The outcome that an IDLE state shows is the one that `Decode` gave (R169, R191). -/
def ShowsOutcome (t : State) : Decoded → Prop
  | .insufficientData => t.status = .insufficientData ∧ t.rejects = 0
  | .reading w k =>
    t.status = .ok ∧ t.resFrame = w ∧ t.resHum = humidityOf w ∧ t.resTemp = temperatureOf w ∧
      t.resTsign = tempSignOf w ∧ t.resOff = k ∧ t.rejects = k ∧ t.haveReading = true
  | .noValidFrame r => t.status = .noValidFrame ∧ t.rejects = r

/-- The result registers of two states are the same (R31). -/
def SameResults (s t : State) : Prop :=
  t.resHum = s.resHum ∧ t.resTemp = s.resTemp ∧ t.resTsign = s.resTsign ∧ t.resFrame = s.resFrame ∧
    t.resOff = s.resOff

/-! ### The host's duties -/

/-- What a host did before START, in its own unit of time (R197 (a), (b), (e)). No operation of the block reads
it: the block cannot check a duty. -/
structure HostPreparation where
  /-- The host got the line (R197 (e)). -/
  acquired : Bool
  /-- How long it held the line low (R197 (a)). -/
  lowHold : Nat
  /-- It released the line (R197 (a)). -/
  released : Bool
  /-- The time from the release to START, not to the first poll (R197 (b); DESIGN CHOICE, log 14). -/
  startGap : Nat
deriving DecidableEq, Repr

/-- R197 (a), (b), (e): the line was acquired, held low for HOST_LOW_HOLD, released, and START came within
HOST_START_GAP. DESIGN CHOICES (log 14), unsafe: R197 (a) says only that the hold time is HOST_LOW_HOLD; here it
is a least time with no upper bound. R197 (b) lets the gap end at START and D26 at the first poll, one cycle later;
here it ends at START, and a gap of exactly HOST_START_GAP is within it. -/
def HostPreparation.MeetsDuties (h : HostPreparation) : Prop :=
  h.acquired = true ∧ Config.hostLowHold ≤ h.lowHold ∧ h.released = true ∧ h.startGap ≤ Config.hostStartGap

/-- R33, R102, R197 (d): a claim about a reading takes HOST_VIOL = 0 as a premise. -/
def DutyKept (s : State) : Prop := s.hostViol = false

/-- R100, R105: the coming edge accepts a START: the block is in IDLE, `start` is 1 and `rst` is 0. -/
structure AcceptsStart (s : State) : Prop where
  idle : s.phase = .idle
  noReset : s.pins.rst = false
  start : s.pins.start = true

/-- R106: `EndsAttempt s n t`: the edge that `s` comes to accepts a START, and the attempt it begins has its end
state `t` after `n` edges: the first state after the START in which PHASE is IDLE. A run with a reset after the
START has no end state. -/
structure EndsAttempt (s : State) (n : Nat) (t : State) : Prop where
  accepted : AcceptsStart s
  noReset : NoResetFor s n
  afterStart : 0 < n
  run : steps n s = .next t
  idle : t.phase = .idle
  first : ∀ k, 0 < k → k < n → ∃ u, steps k s = .next u ∧ u.phase ≠ .idle

/-- R106: `o` is the result of the attempt that the START at `s` begins. -/
def AttemptShows (s : State) (o : AttemptObservation) : Prop := ∃ n t, EndsAttempt s n t ∧ t.observation = o

/-- R103: a bound on the cycles of an attempt in any configuration `p`, its START included. -/
def attemptBound (p : Params) : Nat := 1 + (p.captureTicks + 1) + (p.maxEdges - 1 + 1) + (bitCap p - 39 + 1)

end Sys2Proof.Machine
end

