-- ==== Sys2Proof/Certificates/Slice0/Obligations.lean ====
section
/-! DEFINITION. The statements for the provers. The statements about one operation give its whole next state, so
each is also its frame: what the record update does not name is unchanged. -/

open Sys2Proof Sys2Proof.Machine

/-! ### Attempt control -/

/-- R39, R104: RESET gives every state element its reset value, whatever the state was. The model's choice
(log 18): its own fields, which are no state elements, stay. -/
def Obligations.ResetLoadsEveryResetValue : Prop :=
  Instr.reset.matchBits = 0x1000#13 ∧ Instr.reset.mask = 0x1000#13 ∧
  ∀ s : State, ∃ t, exec .reset s = .next t ∧
    t.phase = .idle ∧ t.status = .noAttempt ∧ t.elapsed = 0 ∧ t.lastLevel = false ∧ t.haveLast = false ∧
    t.edgeCount = 0 ∧ (∀ i, edgeRead t i = .error .edgeHoldsNoValue) ∧ t.clsIdx = 0 ∧
    t.bitCount = 0 ∧ (∀ j, bitRead t j = .error .bitHoldsNoValue) ∧ t.winOff = 0 ∧ t.rejects = 0 ∧
    t.resHum = 0#16 ∧ t.resTemp = 0#16 ∧ t.resTsign = false ∧ t.resFrame = 0#40 ∧ t.resOff = 0 ∧
    t.haveReading = false ∧ t.hostViol = false ∧
    t.params = s.params ∧ t.stimulus = s.stimulus ∧ t.cycle = s.cycle

/-- R100: START's writes, and that the last reading, HAVE_READING and HOST_VIOL stay. -/
def Obligations.StartBeginsAnAttempt : Prop :=
  Instr.start.matchBits = 0x0004#13 ∧ Instr.start.mask = 0x1007#13 ∧
  ∀ s : State, exec .start s = .next
    { s with
      phase := .capture, status := .busy, elapsed := 0, lastLevel := false, haveLast := false, edges := [],
      clsIdx := 0, bits := [], winOff := 0, rejects := 0 }

/-- R101: IDLE_HOLD writes no state element. -/
def Obligations.IdleHoldWritesNothing : Prop :=
  Instr.idleHold.matchBits = 0x0000#13 ∧ Instr.idleHold.mask = 0x1007#13 ∧
  ∀ s : State, exec .idleHold s = .next s

/-- R102: BUSY_START writes HOST_VIOL and nothing else, and a cycle with START outside IDLE is the cycle without
it, with HOST_VIOL set in the state it leads to. -/
def Obligations.BusyStartOnlyMarksTheViolation : Prop :=
  Instr.busyStart.matchBits = 0x0800#13 ∧ Instr.busyStart.mask = 0x1800#13 ∧
  (∀ s : State, exec .busyStart s = .next { s with hostViol := true }) ∧
  ∀ (s : State) (without with_ : InWord),
    s.phase ≠ .idle → (Pins.ofWord without).rst = false → (Pins.ofWord without).start = false →
    Pins.ofWord with_ = { Pins.ofWord without with start := true } →
    step (s.presenting with_) =
      andThen (step (s.presenting without)) (fun t => .next { t with hostViol := true })

/-! ### Edge capture -/

/-- R122: CAP_ABORT ends the attempt with LINE_IO_FAILED and takes no sample. -/
def Obligations.CapAbortEndsTheAttempt : Prop :=
  Instr.capAbort.matchBits = 0x0009#13 ∧ Instr.capAbort.mask = 0x100B#13 ∧
  ∀ s : State, exec .capAbort s = .next { s with phase := .idle, status := .lineIoFailed }

/-- R121, R123: CAP_SEED takes the sampled level and appends no edge; the tail of the poll follows. -/
def Obligations.CapSeedTakesTheLevel : Prop :=
  Instr.capSeed.matchBits = 0x0001#13 ∧ Instr.capSeed.mask = 0x101B#13 ∧
  ∀ s : State, s.elapsed + 1 < 2 ^ s.params.tsW →
    exec .capSeed s = .next
      (if s.edgeCount = s.params.maxEdges ∨ s.elapsed = s.params.captureTicks then
        { s with
          lastLevel := s.pins.lineLevel, haveLast := true, elapsed := s.elapsed + 1, phase := .classify,
          clsIdx := 0 }
      else { s with lastLevel := s.pins.lineLevel, haveLast := true, elapsed := s.elapsed + 1 })

/-- R121, R124: CAP_EDGE appends the poll's time and level; the tail follows with the new count. A full buffer
is the fault that R52 calls a model fault. -/
def Obligations.CapEdgeAppendsTheEdge : Prop :=
  Instr.capEdge.matchBits = 0x0031#13 ∧ Instr.capEdge.mask = 0x103B#13 ∧
  (∀ s : State, s.edgeCount < s.params.maxEdges → s.elapsed + 1 < 2 ^ s.params.tsW →
    exec .capEdge s = .next
      (if s.edgeCount + 1 = s.params.maxEdges ∨ s.elapsed = s.params.captureTicks then
        { s with
          edges := s.edges ++ [{ ts := s.elapsed, kind := s.pins.lineLevel }], lastLevel := s.pins.lineLevel,
          elapsed := s.elapsed + 1, phase := .classify, clsIdx := 0 }
      else
        { s with
          edges := s.edges ++ [{ ts := s.elapsed, kind := s.pins.lineLevel }], lastLevel := s.pins.lineLevel,
          elapsed := s.elapsed + 1 })) ∧
  ∀ s : State, s.params.maxEdges ≤ s.edgeCount → exec .capEdge s = .fault .edgeBufferFull

/-- R121, R125: CAP_SAME appends nothing and keeps the level; the tail follows. -/
def Obligations.CapSameOnlyAdvancesTime : Prop :=
  Instr.capSame.matchBits = 0x0011#13 ∧ Instr.capSame.mask = 0x103B#13 ∧
  ∀ s : State, s.elapsed + 1 < 2 ^ s.params.tsW →
    exec .capSame s = .next
      (if s.edgeCount = s.params.maxEdges ∨ s.elapsed = s.params.captureTicks then
        { s with elapsed := s.elapsed + 1, phase := .classify, clsIdx := 0 }
      else { s with elapsed := s.elapsed + 1 })

/-! ### Pulse classifier -/

/-- R141, R142, R143: CLS_PAIR_FALL appends the bit of the exact difference of the pair's timestamps against
THRESHOLD_US * TICKS_PER_US. Where the timestamps do not rise, which no run reaches, that the difference is an
integer and its bit 0 is the model's choice (log 12). -/
def Obligations.ClsPairFallAppendsTheBit : Prop :=
  Instr.clsPairFall.matchBits = 0x00C2#13 ∧ Instr.clsPairFall.mask = 0x10C3#13 ∧
  ∀ (s : State) (first second : EdgeEvent),
    s.edges[s.clsIdx]? = some first → s.edges[s.clsIdx + 1]? = some second →
    s.bitCount < s.params.maxEdges - 1 → s.clsIdx + 1 < 2 ^ countWidth s.params →
    exec .clsPairFall s = .next
      { s with
        bits := s.bits ++
          [decide ((second.ts : Int) - (first.ts : Int) > s.params.thresholdUs * s.params.ticksPerUs)],
        clsIdx := s.clsIdx + 1 }

/-- R52, R54: CLS_PAIR_FALL on an entry that holds no value, or with the bit buffer full, is the model fault
those rules name. -/
def Obligations.ClsPairFallFaultsWithoutItsOperands : Prop :=
  (∀ s : State, s.edgeCount ≤ s.clsIdx + 1 → exec .clsPairFall s = .fault .edgeHoldsNoValue) ∧
  ∀ s : State, s.clsIdx + 1 < s.edgeCount → s.params.maxEdges - 1 ≤ s.bitCount →
    exec .clsPairFall s = .fault .bitBufferFull

/-- R144: CLS_PAIR_RISE moves to the next pair. -/
def Obligations.ClsPairRiseYieldsNothing : Prop :=
  Instr.clsPairRise.matchBits = 0x0042#13 ∧ Instr.clsPairRise.mask = 0x10C3#13 ∧
  ∀ s : State, s.clsIdx + 1 < 2 ^ countWidth s.params →
    exec .clsPairRise s = .next { s with clsIdx := s.clsIdx + 1 }

/-- R145: CLS_END goes on to the decoder. -/
def Obligations.ClsEndEntersDecode : Prop :=
  Instr.clsEnd.matchBits = 0x0002#13 ∧ Instr.clsEnd.mask = 0x1043#13 ∧
  ∀ s : State, exec .clsEnd s = .next { s with phase := .decode, winOff := 0 }

/-! ### Frame decoder -/

/-- R164: DEC_INSUF ends the attempt with INSUFFICIENT_DATA. -/
def Obligations.DecInsufEndsTheAttempt : Prop :=
  Instr.decInsuf.matchBits = 0x0103#13 ∧ Instr.decInsuf.mask = 0x1103#13 ∧
  ∀ s : State, exec .decInsuf s = .next { s with phase := .idle, status := .insufficientData }

/-- R165: DEC_EXHAUST ends the attempt with NO_VALID_FRAME, and in a state that keeps the invariant it is
selected only with WIN_OFF and REJECTS at BIT_COUNT - 39. -/
def Obligations.DecExhaustEndsTheAttempt : Prop :=
  Instr.decExhaust.matchBits = 0x0003#13 ∧ Instr.decExhaust.mask = 0x1303#13 ∧
  (∀ s : State, exec .decExhaust s = .next { s with phase := .idle, status := .noValidFrame }) ∧
  ∀ (s : State) (side : Bool), AttemptInv s → decode s.sel = .ok (.run .decExhaust side) →
    s.winOff + 39 = s.bitCount ∧ s.rejects + 39 = s.bitCount

/-- R77, R166: DEC_MATCH writes the window and its fields, all in one next state. -/
def Obligations.DecMatchStoresTheReading : Prop :=
  Instr.decMatch.matchBits = 0x0603#13 ∧ Instr.decMatch.mask = 0x1703#13 ∧
  (∀ s : State, s.winOff + 40 ≤ s.bitCount →
    ∃ w : FrameWord, (∀ m, m < 40 → bitRead s (s.winOff + m) = .ok (w.getLsbD (39 - m))) ∧
      exec .decMatch s = .next
        { s with
          resFrame := w
          resHum := w.extractLsb' 24 16
          resTsign := w.getLsbD 23
          resTemp := if w.getLsbD 23 then -(BitVec.zeroExtend 16 (w.extractLsb' 8 15))
            else BitVec.zeroExtend 16 (w.extractLsb' 8 15)
          resOff := s.winOff
          haveReading := true
          phase := .idle
          status := .ok }) ∧
  ∀ s : State, s.bitCount < s.winOff + 40 → exec .decMatch s = .fault .bitHoldsNoValue

/-- R167: DEC_MISMATCH counts the rejected window and moves one bit on. -/
def Obligations.DecMismatchAdvancesOneBit : Prop :=
  Instr.decMismatch.matchBits = 0x0203#13 ∧ Instr.decMismatch.mask = 0x1703#13 ∧
  (∀ s : State, s.winOff + 40 ≤ s.bitCount → s.winOff + 1 < 2 ^ countWidth s.params →
    s.rejects + 1 < 2 ^ countWidth s.params →
    exec .decMismatch s = .next { s with rejects := s.rejects + 1, winOff := s.winOff + 1 }) ∧
  ∀ s : State, s.bitCount < s.winOff + 40 → exec .decMismatch s = .fault .bitHoldsNoValue

/-! ### Selecting and stepping -/

/-- R80: every bit of SEL is what the table says, and it is formed from the state before the edge and this
edge's inputs. -/
def Obligations.SelectorBitsAreTheConditions : Prop :=
  ∀ s : State,
    s.sel.extractLsb' 0 2 = s.phase.code ∧
    s.sel.getLsbD 2 = s.pins.start ∧
    s.sel.getLsbD 3 = s.pins.lineErr ∧
    s.sel.getLsbD 4 = s.haveLast ∧
    s.sel.getLsbD 5 = (s.pins.lineLevel != s.lastLevel) ∧
    s.sel.getLsbD 6 = decide (s.clsIdx + 1 < s.edgeCount) ∧
    (s.sel.getLsbD 7 = true ↔ ∃ e, s.edges[s.clsIdx + 1]? = some e ∧ e.kind = false) ∧
    s.sel.getLsbD 8 = decide (s.bitCount < 40) ∧
    s.sel.getLsbD 9 = decide (s.winOff + 40 ≤ s.bitCount) ∧
    (s.sel.getLsbD 10 = true ↔ ∃ w, readWindow s s.winOff = .ok w ∧ checksumOk w = true) ∧
    s.sel.getLsbD 11 = (s.pins.start && decide (s.phase ≠ .idle)) ∧
    s.sel.getLsbD 12 = s.pins.rst

/-- R82: the primary rows split each phase by the conditions in the order the rule gives; BUSY_START stands
beside them where START comes outside IDLE; RESET stands alone. -/
def Obligations.SelectorSplitsEveryPhase : Prop :=
  ∀ s : State,
    (s.pins.rst = true → decode s.sel = .ok .override) ∧
    (s.pins.rst = false →
      (s.phase = .idle →
        (s.pins.start = true → decode s.sel = .ok (.run .start false)) ∧
        (s.pins.start = false → decode s.sel = .ok (.run .idleHold false))) ∧
      (s.phase = .capture →
        (s.pins.lineErr = true → decode s.sel = .ok (.run .capAbort s.pins.start)) ∧
        (s.pins.lineErr = false → s.haveLast = false → decode s.sel = .ok (.run .capSeed s.pins.start)) ∧
        (s.pins.lineErr = false → s.haveLast = true → s.pins.lineLevel ≠ s.lastLevel →
          decode s.sel = .ok (.run .capEdge s.pins.start)) ∧
        (s.pins.lineErr = false → s.haveLast = true → s.pins.lineLevel = s.lastLevel →
          decode s.sel = .ok (.run .capSame s.pins.start))) ∧
      (s.phase = .classify →
        (s.edgeCount ≤ s.clsIdx + 1 → decode s.sel = .ok (.run .clsEnd s.pins.start)) ∧
        (∀ e, s.edges[s.clsIdx + 1]? = some e → e.kind = false →
          decode s.sel = .ok (.run .clsPairFall s.pins.start)) ∧
        (∀ e, s.edges[s.clsIdx + 1]? = some e → e.kind = true →
          decode s.sel = .ok (.run .clsPairRise s.pins.start))) ∧
      (s.phase = .decode →
        (s.bitCount < 40 → decode s.sel = .ok (.run .decInsuf s.pins.start)) ∧
        (40 ≤ s.bitCount → s.bitCount < s.winOff + 40 → decode s.sel = .ok (.run .decExhaust s.pins.start)) ∧
        (s.winOff + 40 ≤ s.bitCount → checksumOk (windowOf s.bits s.winOff) = true →
          decode s.sel = .ok (.run .decMatch s.pins.start)) ∧
        (s.winOff + 40 ≤ s.bitCount → checksumOk (windowOf s.bits s.winOff) = false →
          decode s.sel = .ok (.run .decMismatch s.pins.start))))

/-- R81: every 13-bit value matches exactly one primary row, or RESET. -/
def Obligations.EverySelectorMatchesOneRow : Prop :=
  ∀ w : SelWord,
    (w.getLsbD 12 = true →
      Instr.reset.applies w = true ∧ ∀ i : Instr, i.applies w = true → i = .reset) ∧
    (w.getLsbD 12 = false →
      ∃ i : Instr, (i.rowClass = .primary ∧ i.applies w = true) ∧
        ∀ j : Instr, j.rowClass = .primary → j.applies w = true → j = i)

/-- R80, R83, R105: decoding what a row or a cycle's selection encodes gives it back, with every bit that the
row ignores at every value. -/
def Obligations.DecodeReadsBackEveryRow : Prop :=
  (∀ sel : Selection, sel.WellFormed → decode sel.encode = .ok sel) ∧
  (∀ i : Instr, decodeRow i.encode = .ok i) ∧
  (∀ (i : Instr) (other : SelWord), i.rowClass = .primary →
    decode (i.encodeWith other) = .ok (.run i (other.getLsbD 11))) ∧
  (∀ other : SelWord, decode (Instr.reset.encodeWith other) = .ok .override) ∧
  ∀ other : SelWord, ∃ i, decode (Instr.busyStart.encodeWith other) = .ok (.run i true)

/-- R80: only formable words are formed, and what a formable word decodes to is a well-formed selection. -/
def Obligations.FormedSelectorsDecodeWellFormed : Prop :=
  (∀ s : State, SelWord.Formable s.sel) ∧
  ∀ w : SelWord, SelWord.Formable w → ∃ sel, decode w = .ok sel ∧ sel.WellFormed

/-- 30_encoding.md, the encoding column of R83, and the selectors of 95_test_vectors.md: written-out words decode
to the operations they stand for. -/
def Obligations.WrittenWordsDecode : Prop :=
  decode 0b1000000000000#13 = .ok .override ∧
  decode 0b0000100100100#13 = .ok (.run .start false) ∧
  decode 0b0000100001000#13 = .ok (.run .idleHold false) ∧
  decode 0b0100100100101#13 = .ok (.run .capSeed true) ∧
  decode 0b0000100001001#13 = .ok (.run .capAbort false) ∧
  decode 0b0000100110001#13 = .ok (.run .capEdge false) ∧
  decode 0b0100111010101#13 = .ok (.run .capSame true) ∧
  decode 0b0000011000010#13 = .ok (.run .clsPairFall false) ∧
  decode 0b0000001000010#13 = .ok (.run .clsPairRise false) ∧
  decode 0b0000000000010#13 = .ok (.run .clsEnd false) ∧
  decode 0b0100100010111#13 = .ok (.run .decInsuf true) ∧
  decode 0b0000000000011#13 = .ok (.run .decExhaust false) ∧
  decode 0b0011000010011#13 = .ok (.run .decMatch false) ∧
  decode 0b0001000000011#13 = .ok (.run .decMismatch false)

/-- R105: a step runs the operations its selector decodes to, the primary one on the state before the edge, and
the edge is counted. RESET runs whatever STATUS holds. -/
def Obligations.StepRunsTheDecodedOperations : Prop :=
  ∀ s : State, s.params.WellFormed →
    (decode s.sel = .ok .override →
      step s = andThen (exec .reset s) (fun t => .next t.advance)) ∧
    (s.status.isReserved = false →
      (∀ i, decode s.sel = .ok (.run i false) →
        step s = andThen (exec i s) (fun t => .next t.advance)) ∧
      (∀ i, decode s.sel = .ok (.run i true) →
        step s = andThen (andThen (exec i s) (exec .busyStart)) (fun t => .next t.advance)))

/-- R104, R193 (1), R220: with `rst = 1` any state of a legal configuration goes to the reset state. The model's
choices: that a reserved STATUS is reset too (log 6), and that the input word is consumed and the edge counted,
with the parameters and the words to come kept (logs 2 and 18). -/
def Obligations.ResetOverridesEverything : Prop :=
  ∀ s : State, s.params.WellFormed → s.pins.rst = true →
    step s = .next { State.resetWith s.params s.stimulus.tail with cycle := s.cycle + 1 }

/-- R8: a configuration that breaks the constraints is refused. -/
def Obligations.IllegalConfigurationIsRefused : Prop :=
  ∀ s : State,
    (s.params.ticksPerUs = 0 ∨ s.params.maxEdges = 0 ∨ 2 ^ s.params.tsW - 1 < s.params.captureTicks + 1) →
    step s = .refused .badConfiguration

/-- R73 and 93_implementation_defined.md X8, as assumption log 6 reads them (the model's choice): a state with a
reserved STATUS is a fault, unless the cycle resets the block. -/
def Obligations.ReservedStatusFaults : Prop :=
  ∀ s : State, s.params.WellFormed → s.pins.rst = false → (s.status = .reserved6 ∨ s.status = .reserved7) →
    step s = .fault .reservedStatus

/-! ### Invariants -/

/-- The state after reset keeps the invariants, in every legal configuration. -/
def Obligations.ResetKeepsTheInvariants : Prop :=
  ∀ (p : Params) (inputs : List InWord), p.WellFormed →
    AttemptInv (State.resetWith p inputs) ∧ StageInv (State.resetWith p inputs) ∧
      RegistersFit (State.resetWith p inputs)

/-- R38: a step from any state that keeps the invariants of R38 leads to one that keeps them. -/
def Obligations.StepKeepsAttemptInv : Prop :=
  ∀ s t : State, AttemptInv s → step s = .next t → AttemptInv t

/-- R52, R54, R73, R82: from any state that keeps the invariants, a step completes: no model fault, no
refusal. -/
def Obligations.InvariantStatesNeverStop : Prop :=
  ∀ s : State, AttemptInv s → ∃ t, step s = .next t

/-- R10: every register of a parameter's width holds a value of that width after any step from a state where
all do. -/
def Obligations.StepKeepsRegisterWidths : Prop :=
  ∀ s t : State, RegistersFit s → step s = .next t → RegistersFit t

/-- R148, R161, R166, R169: a step keeps the agreement of the stages' results with the functional forms. -/
def Obligations.StepKeepsStageInv : Prop :=
  ∀ s t : State, AttemptInv s → StageInv s → step s = .next t → StageInv t

/-- R38, in its own words, over every state reachable from reset in any legal configuration. -/
def Obligations.ReachableStatesSatisfyTheNineInvariants : Prop :=
  ∀ s : State, Reachable s →
    (s.edgeCount ≤ s.params.maxEdges ∧ s.bitCount ≤ max (s.edgeCount - 1) 0 ∧
      max (s.edgeCount - 1) 0 ≤ bitCap s.params) ∧
    ((∀ i a b, s.edges[i]? = some a → s.edges[i + 1]? = some b → a.ts < b.ts) ∧
      ∀ (i : Nat) (a : EdgeEvent), s.edges[i]? = some a → a.ts < s.elapsed) ∧
    (∀ i a b, s.edges[i]? = some a → s.edges[i + 1]? = some b → b.kind = !a.kind) ∧
    (∀ e, s.haveLast = true → s.edges[s.edgeCount - 1]? = some e → s.lastLevel = e.kind) ∧
    (s.phase = .classify →
      s.bitCount = ((List.range' 1 s.clsIdx).filter
        (fun j => decide (∃ e ∈ s.edges[j]?, e.kind = false))).length) ∧
    s.bitCount ≤ s.edgeCount / 2 ∧
    (s.phase = .decode → s.rejects = s.winOff) ∧
    (s.phase = .idle → s.status = .ok → s.haveReading = true) ∧
    (s.haveReading = false →
      s.resHum = 0#16 ∧ s.resTemp = 0#16 ∧ s.resTsign = false ∧ s.resFrame = 0#40 ∧ s.resOff = 0)

/-! ### What a step leaves alone -/

/-- R7: no step writes a parameter. -/
def Obligations.NoStepWritesAParameter : Prop :=
  ∀ s t : State, step s = .next t → t.params = s.params

/-- R31: without reset, the result registers change only in a cycle that ends its attempt in OK, in which all
five are the accepted window's. -/
def Obligations.OnlyAMatchWritesTheResults : Prop :=
  ∀ s t : State, step s = .next t → s.pins.rst = false →
    SameResults s t ∨
      (s.phase = .decode ∧ t.phase = .idle ∧ t.status = .ok ∧ t.haveReading = true ∧ t.resOff = s.winOff ∧
        readWindow s s.winOff = .ok t.resFrame ∧ checksumOk t.resFrame = true ∧
        t.resHum = humidityOf t.resFrame ∧ t.resTemp = temperatureOf t.resFrame ∧
        t.resTsign = tempSignOf t.resFrame)

/-- R32, R33: only reset clears HAVE_READING and HOST_VIOL; HAVE_READING is set by a cycle that ends in OK, and
HOST_VIOL by START outside IDLE, and by nothing else. -/
def Obligations.StickyFlagsClearOnlyOnReset : Prop :=
  ∀ s t : State, step s = .next t → s.pins.rst = false →
    (t.hostViol = (s.hostViol || (s.pins.start && decide (s.phase ≠ .idle)))) ∧
    (s.haveReading = true → t.haveReading = true) ∧
    (s.haveReading = false → t.haveReading = true → s.phase = .decode ∧ t.phase = .idle ∧ t.status = .ok)

/-- R25, R26, R51: without reset, a step leaves the edge buffer as it was, or empties it (START), or appends one
entry, stamped with ELAPSED and the sampled level, to unchanged ones (a poll). -/
def Obligations.RecordedEdgesAreImmutable : Prop :=
  ∀ s t : State, step s = .next t → s.pins.rst = false →
    t.edges = s.edges ∨
      (s.phase = .idle ∧ s.pins.start = true ∧ t.edges = []) ∨
      (s.phase = .capture ∧ s.edgeCount < s.params.maxEdges ∧ s.haveLast = true ∧
        s.pins.lineErr = false ∧ s.pins.lineLevel ≠ s.lastLevel ∧
        t.edges = s.edges ++ [{ ts := s.elapsed % 2 ^ s.params.tsW, kind := s.pins.lineLevel }])

/-- R28, R53: without reset, a step leaves the bit buffer as it was, or empties it (START), or appends one bit to
unchanged ones (a falling pair). -/
def Obligations.ClassifiedBitsAreImmutable : Prop :=
  ∀ s t : State, step s = .next t → s.pins.rst = false →
    t.bits = s.bits ∨
      (s.phase = .idle ∧ s.pins.start = true ∧ t.bits = []) ∨
      (s.phase = .classify ∧ s.bitCount < bitCap s.params ∧ ∃ b, t.bits = s.bits ++ [b])

/-- R23, R24, R201: without reset, ELAPSED, LAST_LEVEL and HAVE_LAST change only in CAPTURE and by START; a read
failure keeps them. -/
def Obligations.TimeRunsOnlyInCapture : Prop :=
  ∀ s t : State, step s = .next t → s.pins.rst = false →
    (s.phase = .classify ∨ s.phase = .decode ∨ (s.phase = .idle ∧ s.pins.start = false) ∨
      (s.phase = .capture ∧ s.pins.lineErr = true)) →
    t.elapsed = s.elapsed ∧ t.lastLevel = s.lastLevel ∧ t.haveLast = s.haveLast

/-- R103: without reset, PHASE moves only forward and back to IDLE with an outcome, and STATUS changes only
where PHASE enters or leaves IDLE. -/
def Obligations.PhasesMoveOnlyForward : Prop :=
  ∀ s t : State, step s = .next t → s.pins.rst = false →
    (s.phase = .idle →
      (s.pins.start = true ∧ t.phase = .capture ∧ t.status = .busy) ∨
        (s.pins.start = false ∧ t.phase = .idle ∧ t.status = s.status)) ∧
    (s.phase = .capture →
      ((t.phase = .capture ∨ t.phase = .classify) ∧ s.pins.lineErr = false ∧ t.status = s.status) ∨
        (t.phase = .idle ∧ s.pins.lineErr = true ∧ t.status = .lineIoFailed)) ∧
    (s.phase = .classify → (t.phase = .classify ∨ t.phase = .decode) ∧ t.status = s.status) ∧
    (s.phase = .decode →
      (t.phase = .decode ∧ t.status = s.status) ∨
        (t.phase = .idle ∧ (t.status = .ok ∨ t.status = .insufficientData ∨ t.status = .noValidFrame)))

/-- R82, R198: outside CAPTURE, `line_level` and `line_err` change nothing; in IDLE with START too. -/
def Obligations.LineInputsMatterOnlyInCapture : Prop :=
  ∀ (s : State) (w w' : InWord), s.phase ≠ .capture →
    (Pins.ofWord w).rst = (Pins.ofWord w').rst → (Pins.ofWord w).start = (Pins.ofWord w').start →
    step (s.presenting w) = step (s.presenting w')

/-- R71: no output depends on the inputs of the cycle. -/
def Obligations.OutputsIgnoreTheInputs : Prop :=
  ∀ (s : State) (inputs : List InWord) (i j : Nat),
    State.outputs { s with stimulus := inputs } i j = s.outputs i j

/-! ### The stages' results -/

/-- R129, and R121 with R127: from the state right after START, a capture without reset or read failure runs for
exactly the polls 0 to the last one, and leaves the Edge Sequence of the sampled levels. -/
def Obligations.CaptureComputesTheEdgeSequence : Prop :=
  ∀ s : State, AttemptInv s → s.phase = .capture → s.haveLast = false →
    NoResetFor s (lastPoll s.params (sampledLevel s) + 1) →
    NoReadFailureFor s (lastPoll s.params (sampledLevel s) + 1) →
    (∃ t, steps (lastPoll s.params (sampledLevel s) + 1) s = .next t ∧ t.phase = .classify ∧ t.clsIdx = 0 ∧
      t.edges = edgesOfLevels s.params (sampledLevel s) ∧
      t.elapsed = lastPoll s.params (sampledLevel s) + 1) ∧
    ∀ k, k ≤ lastPoll s.params (sampledLevel s) → ∃ u, steps k s = .next u ∧ u.phase = .capture

/-- R122: a read failure at any poll of a capture, the first one included, ends the attempt with the edges
captured so far and no sample of that cycle. -/
def Obligations.ReadFailureEndsTheCaptureAtOnce : Prop :=
  ∀ s : State, AttemptInv s → s.phase = .capture → s.pins.rst = false → s.pins.lineErr = true →
    ∃ t, step s = .next t ∧ t.phase = .idle ∧ t.status = .lineIoFailed ∧ t.elapsed = s.elapsed ∧
      t.edges = s.edges ∧ t.bits = [] ∧ t.lastLevel = s.lastLevel ∧ t.haveLast = s.haveLast ∧
      SameResults s t ∧ t.haveReading = s.haveReading

/-- R147, R148: CLASSIFY takes exactly `max(EDGE_COUNT - 1, 0)` pair cycles and one CLS_END cycle, and computes
the Bit Sequence of the Edge Sequence. -/
def Obligations.ClassifyComputesTheBitSequence : Prop :=
  ∀ s : State, AttemptInv s → s.phase = .classify → s.clsIdx = 0 → NoResetFor s (max (s.edgeCount - 1) 0 + 1) →
    (∃ t, steps (max (s.edgeCount - 1) 0 + 1) s = .next t ∧ t.phase = .decode ∧ t.edges = s.edges ∧
      t.bits = bitsOfEdges s.params s.edges ∧ t.winOff = 0) ∧
    ∀ k, k ≤ max (s.edgeCount - 1) 0 → ∃ u, steps k s = .next u ∧ u.phase = .classify

/-- R168, R169: DECODE takes one cycle more than the windows it rejects (one where bits are too few), at most
`max(BIT_COUNT - 39, 0) + 1`, and its end state shows what `Decode` gives. -/
def Obligations.DecodeComputesTheFirstValidFrame : Prop :=
  ∀ s : State, AttemptInv s → s.phase = .decode → s.winOff = 0 → NoResetFor s (decodeCycles s.bits) →
    (∃ t, steps (decodeCycles s.bits) s = .next t ∧ t.phase = .idle ∧ t.bits = s.bits ∧ t.edges = s.edges ∧
      ShowsOutcome t (decodeBits s.bits) ∧
      decodeCycles s.bits = (if s.bitCount < 40 then 1 else t.rejects + 1) ∧
      decodeCycles s.bits ≤ max (s.bitCount - 39) 0 + 1) ∧
    ∀ k, k < decodeCycles s.bits → ∃ u, steps k s = .next u ∧ u.phase = .decode

/-- R103: whatever the line does, an attempt that is not reset ends within the bound of its three stages. -/
def Obligations.EveryAttemptEndsWithinItsBound : Prop :=
  ∀ s : State, AttemptInv s →
    NoResetFor s ((s.params.captureTicks + 1) + (s.params.maxEdges - 1 + 1) + (bitCap s.params - 39 + 1)) →
    ∃ n t, n ≤ (s.params.captureTicks + 1) + (s.params.maxEdges - 1 + 1) + (bitCap s.params - 39 + 1) ∧
      steps n s = .next t ∧ t.phase = .idle

/-- R105, R106, R223: an attempt from START, without reset or read failure, takes `1 + C + K + D` cycles, is
never in IDLE between, and its end state shows the decoding of the bits of the edges of the sampled levels. -/
def Obligations.AnAttemptDecodesTheSampledLevels : Prop :=
  ∀ (s : State) (level : Nat → Bool), AttemptInv s → s.phase = .idle → s.pins.start = true →
    (∀ k, sampledLevel s (k + 1) = level k) →
    NoResetFor s (attemptCycles s.params level) → NoReadFailureFor s.advance (lastPoll s.params level + 1) →
    (∃ t, steps (attemptCycles s.params level) s = .next t ∧ t.phase = .idle ∧
      t.edges = edgesOfLevels s.params level ∧
      t.bits = bitsOfEdges s.params (edgesOfLevels s.params level) ∧
      ShowsOutcome t (decodeBits (bitsOfEdges s.params (edgesOfLevels s.params level)))) ∧
    ∀ k, 0 < k → k < attemptCycles s.params level → ∃ u, steps k s = .next u ∧ u.phase ≠ .idle

/-- R146: the four bounds on the bits of an Edge Sequence. -/
def Obligations.BitCountBounds : Prop :=
  ∀ (p : Params) (edges : List EdgeEvent),
    (bitsOfEdges p edges).length =
      ((List.range' 1 (edges.length - 1)).filter (fun j => decide (∃ e ∈ edges[j]?, e.kind = false))).length ∧
    (bitsOfEdges p edges).length ≤ max (edges.length - 1) 0 ∧
    ((∀ i a b, edges[i]? = some a → edges[i + 1]? = some b → b.kind = !a.kind) →
      (bitsOfEdges p edges).length ≤ edges.length / 2) ∧
    (edges.length < 2 → bitsOfEdges p edges = [])

/-! ### Operands and ports -/

/-- R52, R54: the buffer primitives do what their rules say where their requirement holds, leave every other
entry alone, and are a model fault where it fails. -/
def Obligations.BufferPrimitivesKeepToTheirEntry : Prop :=
  (∀ (s : State) (ts : Nat) (kind : Bool), s.edgeCount < s.params.maxEdges → ts < 2 ^ s.params.tsW →
    ∃ t, edgeAppend s ts kind = .ok t ∧ edgeRead t s.edgeCount = .ok { ts := ts, kind := kind } ∧
      t.edgeCount = s.edgeCount + 1 ∧ (∀ i, i ≠ s.edgeCount → edgeRead t i = edgeRead s i) ∧
      t.bits = s.bits) ∧
  (∀ (s : State) (ts : Nat) (kind : Bool), s.params.maxEdges ≤ s.edgeCount →
    edgeAppend s ts kind = .error .edgeBufferFull) ∧
  (∀ (s : State) (i : Nat), s.edgeCount ≤ i → edgeRead s i = .error .edgeHoldsNoValue) ∧
  (∀ (s : State) (b : Bool), s.bitCount < bitCap s.params →
    ∃ t, bitAppend s b = .ok t ∧ bitRead t s.bitCount = .ok b ∧ t.bitCount = s.bitCount + 1 ∧
      (∀ j, j ≠ s.bitCount → bitRead t j = bitRead s j) ∧ t.edges = s.edges) ∧
  (∀ (s : State) (b : Bool), bitCap s.params ≤ s.bitCount → bitAppend s b = .error .bitBufferFull) ∧
  ∀ (s : State) (j : Nat), s.bitCount ≤ j → bitRead s j = .error .bitHoldsNoValue

/-- R56, R57: a window's first bit is its most significant, and its byte `j` is bits `k + 8j` to `k + 8j + 7`,
the first of them bit 7. -/
def Obligations.WindowsAreBigEndian : Prop :=
  ∀ (s : State) (k : Nat), k + 40 ≤ s.bitCount →
    ∃ w, readWindow s k = .ok w ∧
      (∀ m, m < 40 → bitRead s (k + m) = .ok (w.getLsbD (39 - m))) ∧
      ∀ j b, j < 5 → b < 8 → bitRead s (k + 8 * j + b) = .ok ((frameByte w j).getLsbD (7 - b))

/-- R58, R77: the operands of a window as numbers: the sum modulo 256, the big-endian humidity, the 15-bit
magnitude, and the exact signed temperature. -/
def Obligations.WindowFieldsAreExact : Prop :=
  ∀ w : FrameWord,
    (sum8 w).toNat =
      ((frameByte w 0).toNat + (frameByte w 1).toNat + (frameByte w 2).toNat + (frameByte w 3).toNat) % 256 ∧
    (checksumOk w = true ↔ (sum8 w).toNat = w.toNat % 256) ∧
    (humidityOf w).toNat = 256 * (frameByte w 0).toNat + (frameByte w 1).toNat ∧
    (tempSignOf w = true ↔ 128 ≤ (frameByte w 2).toNat) ∧
    (tempMagnitudeOf w).toNat = 256 * ((frameByte w 2).toNat % 128) + (frameByte w 3).toNat ∧
    (temperatureOf w).toInt =
      (if tempSignOf w then -((tempMagnitudeOf w).toNat : Int) else ((tempMagnitudeOf w).toNat : Int))

/-- R170: changing exactly one byte of a valid frame breaks its checksum; one up in B_0 and one down in B_1
cancel. -/
def Obligations.SingleByteCorruptionIsDetected : Prop :=
  (∀ (w w' : FrameWord) (j : Nat), checksumOk w = true → j < 5 → frameByte w' j ≠ frameByte w j →
    (∀ i, i < 5 → i ≠ j → frameByte w' i = frameByte w i) → checksumOk w' = false) ∧
  ∀ w w' : FrameWord, checksumOk w = true → frameByte w' 0 = frameByte w 0 + 1#8 →
    frameByte w' 1 = frameByte w 1 - 1#8 → (∀ i, i < 5 → 2 ≤ i → frameByte w' i = frameByte w i) →
    checksumOk w' = true

/-- R171: the all-zero window passes and decodes to zeros, wherever it stands first. -/
def Obligations.AllZeroWindowIsAccepted : Prop :=
  ∀ bs : List Bool, 40 ≤ bs.length → (∀ j, j < 40 → bs[j]? = some false) →
    decodeBits bs = .reading 0#40 0 ∧ humidityOf 0#40 = 0#16 ∧ temperatureOf 0#40 = 0#16

/-- R142: a pulse is 1 exactly above the threshold in ticks, which is exactly above it in microseconds. -/
def Obligations.PulsesAboveTheThresholdAreOne : Prop :=
  ∀ (p : Params) (d : Nat), p.WellFormed →
    (pulseBit p d = true ↔ p.thresholdUs * p.ticksPerUs < d) ∧
    (pulseBit p d = true ↔ (p.thresholdUs : ℚ) < (d : ℚ) / (p.ticksPerUs : ℚ))

/-- R192: `Finish` writes PHASE and STATUS and nothing else. -/
def Obligations.FinishWritesOnlyPhaseAndStatus : Prop :=
  ∀ (s : State) (code : Status),
    s.finish code =
      { params := s.params, stimulus := s.stimulus, cycle := s.cycle, phase := .idle, status := code,
        elapsed := s.elapsed, lastLevel := s.lastLevel, haveLast := s.haveLast, edges := s.edges,
        clsIdx := s.clsIdx, bits := s.bits, winOff := s.winOff, rejects := s.rejects, resHum := s.resHum,
        resTemp := s.resTemp, resTsign := s.resTsign, resFrame := s.resFrame, resOff := s.resOff,
        haveReading := s.haveReading, hostViol := s.hostViol }

/-- R78: every field of `status_word` is the state element it names, and all are 0 after reset. -/
def Obligations.StatusWordShowsItsFields : Prop :=
  (∀ (p : Params) (inputs : List InWord), (State.resetWith p inputs).statusWord = 0x00#8) ∧
  ∀ s : State,
    s.statusWord.extractLsb' 0 2 = s.phase.code ∧ s.statusWord.extractLsb' 2 3 = s.status.code ∧
    s.statusWord.getLsbD 5 = s.haveReading ∧ s.statusWord.getLsbD 6 = s.hostViol ∧
    s.statusWord.getLsbD 7 = decide (s.phase ≠ .idle)

/-- R79: each inspection port is valid exactly where its own index is below its count, and shows the entry
there. -/
def Obligations.InspectionShowsValidEntries : Prop :=
  ∀ (s : State) (i j : Nat), i < 2 ^ countWidth s.params → j < 2 ^ countWidth s.params →
    (s.outputs i j).dbgEdgeValid = decide (i < s.edgeCount) ∧
    (s.outputs i j).dbgBitValid = decide (j < s.bitCount) ∧
    (∀ e, s.edges[i]? = some e → (s.outputs i j).dbgEdgeTs = e.ts ∧ (s.outputs i j).dbgEdgeKind = e.kind) ∧
    ∀ b, s.bits[j]? = some b → (s.outputs i j).dbgBit = b

/-- R196: the attempt's result is a Reading exactly where STATUS is OK, the temperature read as two's
complement. -/
def Obligations.AttemptResultIsTheReading : Prop :=
  ∀ s : State,
    (s.status = .ok →
      s.attemptResult = some { temperatureTenths := s.resTemp.toInt, humidityTenths := s.resHum.toNat }) ∧
    (s.status ≠ .ok → s.attemptResult = none)

/-- R85: the input word's bits are the four ports. -/
def Obligations.InputWordsAreThePorts : Prop :=
  (∀ p : Pins, Pins.ofWord p.toWord = p) ∧ (∀ w : InWord, (Pins.ofWord w).toWord = w) ∧
  Pins.ofWord 0x8#4 = ⟨true, false, false, false⟩ ∧ Pins.ofWord 0x4#4 = ⟨false, true, false, false⟩ ∧
  Pins.ofWord 0x5#4 = ⟨false, true, false, true⟩ ∧ Pins.ofWord 0x2#4 = ⟨false, false, true, false⟩ ∧
  Pins.ofWord 0x1#4 = ⟨false, false, false, true⟩ ∧ Pins.ofWord 0x0#4 = ⟨false, false, false, false⟩

/-! ### The end of an attempt -/

/-- R103, R106: every accepted START, without reset in the attempt's bound, has an end state within it, and only
one, so only one result. It shows one of the four outcomes; the results change only where it is OK. With the first
read failure at a poll that the capture comes to, the end state is that of the abort in that cycle, with the edges of
the levels sampled before. -/
def Obligations.EveryAcceptedStartHasOneEndState : Prop :=
  (∀ s : State, AttemptInv s → AcceptsStart s → NoResetFor s (attemptBound s.params) →
    ∃ n t, n ≤ attemptBound s.params ∧ EndsAttempt s n t ∧
      ((t.status = .ok ∧ t.haveReading = true) ∨
        ((t.status = .lineIoFailed ∨ t.status = .insufficientData ∨ t.status = .noValidFrame) ∧
          SameResults s t ∧ t.haveReading = s.haveReading))) ∧
  (∀ (s : State) (m n : Nat) (t u : State), EndsAttempt s m t → EndsAttempt s n u → m = n ∧ t = u) ∧
  (∀ (s : State) (o o' : AttemptObservation), AttemptShows s o → AttemptShows s o' → o = o') ∧
  ∀ (s : State) (level : Nat → Bool) (k : Nat), AttemptInv s → AcceptsStart s →
    (∀ j, sampledLevel s (j + 1) = level j) → k ≤ lastPoll s.params level →
    NoResetFor s (k + 2) → NoReadFailureFor s.advance k → (Pins.ofWord (s.inputAt (k + 1))).lineErr = true →
    ∃ t, EndsAttempt s (k + 2) t ∧ t.status = .lineIoFailed ∧ t.elapsed = k ∧
      t.edges = levelChanges level (k - 1) ∧ t.bits = [] ∧ t.rejects = 0 ∧ SameResults s t ∧
      t.attemptResult = none
end

