-- ==== Sys2Proof/Laws/State.lean ====
section
/-! SUPPORT. One lemma per field of State per named update of Machine/Ops.lean, and the reset state's fields: each
true by `rfl`. -/

namespace Sys2Proof.Machine

/-! ### finish -/

@[simp] theorem State.finish_params (s : State) (code : Status) : (s.finish code).params = s.params := rfl
@[simp] theorem State.finish_stimulus (s : State) (code : Status) : (s.finish code).stimulus = s.stimulus := rfl
@[simp] theorem State.finish_cycle (s : State) (code : Status) : (s.finish code).cycle = s.cycle := rfl
@[simp] theorem State.finish_phase (s : State) (code : Status) : (s.finish code).phase = .idle := rfl
@[simp] theorem State.finish_status (s : State) (code : Status) : (s.finish code).status = code := rfl
@[simp] theorem State.finish_elapsed (s : State) (code : Status) : (s.finish code).elapsed = s.elapsed := rfl
@[simp] theorem State.finish_lastLevel (s : State) (code : Status) : (s.finish code).lastLevel = s.lastLevel := rfl
@[simp] theorem State.finish_haveLast (s : State) (code : Status) : (s.finish code).haveLast = s.haveLast := rfl
@[simp] theorem State.finish_edges (s : State) (code : Status) : (s.finish code).edges = s.edges := rfl
@[simp] theorem State.finish_clsIdx (s : State) (code : Status) : (s.finish code).clsIdx = s.clsIdx := rfl
@[simp] theorem State.finish_bits (s : State) (code : Status) : (s.finish code).bits = s.bits := rfl
@[simp] theorem State.finish_winOff (s : State) (code : Status) : (s.finish code).winOff = s.winOff := rfl
@[simp] theorem State.finish_rejects (s : State) (code : Status) : (s.finish code).rejects = s.rejects := rfl
@[simp] theorem State.finish_resHum (s : State) (code : Status) : (s.finish code).resHum = s.resHum := rfl
@[simp] theorem State.finish_resTemp (s : State) (code : Status) : (s.finish code).resTemp = s.resTemp := rfl
@[simp] theorem State.finish_resTsign (s : State) (code : Status) : (s.finish code).resTsign = s.resTsign := rfl
@[simp] theorem State.finish_resFrame (s : State) (code : Status) : (s.finish code).resFrame = s.resFrame := rfl
@[simp] theorem State.finish_resOff (s : State) (code : Status) : (s.finish code).resOff = s.resOff := rfl
@[simp] theorem State.finish_haveReading (s : State) (code : Status) : (s.finish code).haveReading = s.haveReading := rfl
@[simp] theorem State.finish_hostViol (s : State) (code : Status) : (s.finish code).hostViol = s.hostViol := rfl

/-! ### resetElements -/

@[simp] theorem State.resetElements_params (s : State) : s.resetElements.params = s.params := rfl
@[simp] theorem State.resetElements_stimulus (s : State) : s.resetElements.stimulus = s.stimulus := rfl
@[simp] theorem State.resetElements_cycle (s : State) : s.resetElements.cycle = s.cycle := rfl
@[simp] theorem State.resetElements_phase (s : State) : s.resetElements.phase = .idle := rfl
@[simp] theorem State.resetElements_status (s : State) : s.resetElements.status = .noAttempt := rfl
@[simp] theorem State.resetElements_elapsed (s : State) : s.resetElements.elapsed = 0 := rfl
@[simp] theorem State.resetElements_lastLevel (s : State) : s.resetElements.lastLevel = false := rfl
@[simp] theorem State.resetElements_haveLast (s : State) : s.resetElements.haveLast = false := rfl
@[simp] theorem State.resetElements_edges (s : State) : s.resetElements.edges = [] := rfl
@[simp] theorem State.resetElements_clsIdx (s : State) : s.resetElements.clsIdx = 0 := rfl
@[simp] theorem State.resetElements_bits (s : State) : s.resetElements.bits = [] := rfl
@[simp] theorem State.resetElements_winOff (s : State) : s.resetElements.winOff = 0 := rfl
@[simp] theorem State.resetElements_rejects (s : State) : s.resetElements.rejects = 0 := rfl
@[simp] theorem State.resetElements_resHum (s : State) : s.resetElements.resHum = 0#16 := rfl
@[simp] theorem State.resetElements_resTemp (s : State) : s.resetElements.resTemp = 0#16 := rfl
@[simp] theorem State.resetElements_resTsign (s : State) : s.resetElements.resTsign = false := rfl
@[simp] theorem State.resetElements_resFrame (s : State) : s.resetElements.resFrame = 0#40 := rfl
@[simp] theorem State.resetElements_resOff (s : State) : s.resetElements.resOff = 0 := rfl
@[simp] theorem State.resetElements_haveReading (s : State) : s.resetElements.haveReading = false := rfl
@[simp] theorem State.resetElements_hostViol (s : State) : s.resetElements.hostViol = false := rfl

/-! ### beginAttempt -/

@[simp] theorem State.beginAttempt_params (s : State) : s.beginAttempt.params = s.params := rfl
@[simp] theorem State.beginAttempt_stimulus (s : State) : s.beginAttempt.stimulus = s.stimulus := rfl
@[simp] theorem State.beginAttempt_cycle (s : State) : s.beginAttempt.cycle = s.cycle := rfl
@[simp] theorem State.beginAttempt_phase (s : State) : s.beginAttempt.phase = .capture := rfl
@[simp] theorem State.beginAttempt_status (s : State) : s.beginAttempt.status = .busy := rfl
@[simp] theorem State.beginAttempt_elapsed (s : State) : s.beginAttempt.elapsed = 0 := rfl
@[simp] theorem State.beginAttempt_lastLevel (s : State) : s.beginAttempt.lastLevel = false := rfl
@[simp] theorem State.beginAttempt_haveLast (s : State) : s.beginAttempt.haveLast = false := rfl
@[simp] theorem State.beginAttempt_edges (s : State) : s.beginAttempt.edges = [] := rfl
@[simp] theorem State.beginAttempt_clsIdx (s : State) : s.beginAttempt.clsIdx = 0 := rfl
@[simp] theorem State.beginAttempt_bits (s : State) : s.beginAttempt.bits = [] := rfl
@[simp] theorem State.beginAttempt_winOff (s : State) : s.beginAttempt.winOff = 0 := rfl
@[simp] theorem State.beginAttempt_rejects (s : State) : s.beginAttempt.rejects = 0 := rfl
@[simp] theorem State.beginAttempt_resHum (s : State) : s.beginAttempt.resHum = s.resHum := rfl
@[simp] theorem State.beginAttempt_resTemp (s : State) : s.beginAttempt.resTemp = s.resTemp := rfl
@[simp] theorem State.beginAttempt_resTsign (s : State) : s.beginAttempt.resTsign = s.resTsign := rfl
@[simp] theorem State.beginAttempt_resFrame (s : State) : s.beginAttempt.resFrame = s.resFrame := rfl
@[simp] theorem State.beginAttempt_resOff (s : State) : s.beginAttempt.resOff = s.resOff := rfl
@[simp] theorem State.beginAttempt_haveReading (s : State) : s.beginAttempt.haveReading = s.haveReading := rfl
@[simp] theorem State.beginAttempt_hostViol (s : State) : s.beginAttempt.hostViol = s.hostViol := rfl

/-! ### markViolation -/

@[simp] theorem State.markViolation_params (s : State) : s.markViolation.params = s.params := rfl
@[simp] theorem State.markViolation_stimulus (s : State) : s.markViolation.stimulus = s.stimulus := rfl
@[simp] theorem State.markViolation_cycle (s : State) : s.markViolation.cycle = s.cycle := rfl
@[simp] theorem State.markViolation_phase (s : State) : s.markViolation.phase = s.phase := rfl
@[simp] theorem State.markViolation_status (s : State) : s.markViolation.status = s.status := rfl
@[simp] theorem State.markViolation_elapsed (s : State) : s.markViolation.elapsed = s.elapsed := rfl
@[simp] theorem State.markViolation_lastLevel (s : State) : s.markViolation.lastLevel = s.lastLevel := rfl
@[simp] theorem State.markViolation_haveLast (s : State) : s.markViolation.haveLast = s.haveLast := rfl
@[simp] theorem State.markViolation_edges (s : State) : s.markViolation.edges = s.edges := rfl
@[simp] theorem State.markViolation_clsIdx (s : State) : s.markViolation.clsIdx = s.clsIdx := rfl
@[simp] theorem State.markViolation_bits (s : State) : s.markViolation.bits = s.bits := rfl
@[simp] theorem State.markViolation_winOff (s : State) : s.markViolation.winOff = s.winOff := rfl
@[simp] theorem State.markViolation_rejects (s : State) : s.markViolation.rejects = s.rejects := rfl
@[simp] theorem State.markViolation_resHum (s : State) : s.markViolation.resHum = s.resHum := rfl
@[simp] theorem State.markViolation_resTemp (s : State) : s.markViolation.resTemp = s.resTemp := rfl
@[simp] theorem State.markViolation_resTsign (s : State) : s.markViolation.resTsign = s.resTsign := rfl
@[simp] theorem State.markViolation_resFrame (s : State) : s.markViolation.resFrame = s.resFrame := rfl
@[simp] theorem State.markViolation_resOff (s : State) : s.markViolation.resOff = s.resOff := rfl
@[simp] theorem State.markViolation_haveReading (s : State) : s.markViolation.haveReading = s.haveReading := rfl
@[simp] theorem State.markViolation_hostViol (s : State) : s.markViolation.hostViol = true := rfl

/-! ### seedLevel -/

@[simp] theorem State.seedLevel_params (s : State) (level : Bool) : (s.seedLevel level).params = s.params := rfl
@[simp] theorem State.seedLevel_stimulus (s : State) (level : Bool) : (s.seedLevel level).stimulus = s.stimulus := rfl
@[simp] theorem State.seedLevel_cycle (s : State) (level : Bool) : (s.seedLevel level).cycle = s.cycle := rfl
@[simp] theorem State.seedLevel_phase (s : State) (level : Bool) : (s.seedLevel level).phase = s.phase := rfl
@[simp] theorem State.seedLevel_status (s : State) (level : Bool) : (s.seedLevel level).status = s.status := rfl
@[simp] theorem State.seedLevel_elapsed (s : State) (level : Bool) : (s.seedLevel level).elapsed = s.elapsed := rfl
@[simp] theorem State.seedLevel_lastLevel (s : State) (level : Bool) : (s.seedLevel level).lastLevel = level := rfl
@[simp] theorem State.seedLevel_haveLast (s : State) (level : Bool) : (s.seedLevel level).haveLast = true := rfl
@[simp] theorem State.seedLevel_edges (s : State) (level : Bool) : (s.seedLevel level).edges = s.edges := rfl
@[simp] theorem State.seedLevel_clsIdx (s : State) (level : Bool) : (s.seedLevel level).clsIdx = s.clsIdx := rfl
@[simp] theorem State.seedLevel_bits (s : State) (level : Bool) : (s.seedLevel level).bits = s.bits := rfl
@[simp] theorem State.seedLevel_winOff (s : State) (level : Bool) : (s.seedLevel level).winOff = s.winOff := rfl
@[simp] theorem State.seedLevel_rejects (s : State) (level : Bool) : (s.seedLevel level).rejects = s.rejects := rfl
@[simp] theorem State.seedLevel_resHum (s : State) (level : Bool) : (s.seedLevel level).resHum = s.resHum := rfl
@[simp] theorem State.seedLevel_resTemp (s : State) (level : Bool) : (s.seedLevel level).resTemp = s.resTemp := rfl
@[simp] theorem State.seedLevel_resTsign (s : State) (level : Bool) : (s.seedLevel level).resTsign = s.resTsign := rfl
@[simp] theorem State.seedLevel_resFrame (s : State) (level : Bool) : (s.seedLevel level).resFrame = s.resFrame := rfl
@[simp] theorem State.seedLevel_resOff (s : State) (level : Bool) : (s.seedLevel level).resOff = s.resOff := rfl
@[simp] theorem State.seedLevel_haveReading (s : State) (level : Bool) : (s.seedLevel level).haveReading = s.haveReading := rfl
@[simp] theorem State.seedLevel_hostViol (s : State) (level : Bool) : (s.seedLevel level).hostViol = s.hostViol := rfl

/-! ### noteLevel -/

@[simp] theorem State.noteLevel_params (s : State) (level : Bool) : (s.noteLevel level).params = s.params := rfl
@[simp] theorem State.noteLevel_stimulus (s : State) (level : Bool) : (s.noteLevel level).stimulus = s.stimulus := rfl
@[simp] theorem State.noteLevel_cycle (s : State) (level : Bool) : (s.noteLevel level).cycle = s.cycle := rfl
@[simp] theorem State.noteLevel_phase (s : State) (level : Bool) : (s.noteLevel level).phase = s.phase := rfl
@[simp] theorem State.noteLevel_status (s : State) (level : Bool) : (s.noteLevel level).status = s.status := rfl
@[simp] theorem State.noteLevel_elapsed (s : State) (level : Bool) : (s.noteLevel level).elapsed = s.elapsed := rfl
@[simp] theorem State.noteLevel_lastLevel (s : State) (level : Bool) : (s.noteLevel level).lastLevel = level := rfl
@[simp] theorem State.noteLevel_haveLast (s : State) (level : Bool) : (s.noteLevel level).haveLast = s.haveLast := rfl
@[simp] theorem State.noteLevel_edges (s : State) (level : Bool) : (s.noteLevel level).edges = s.edges := rfl
@[simp] theorem State.noteLevel_clsIdx (s : State) (level : Bool) : (s.noteLevel level).clsIdx = s.clsIdx := rfl
@[simp] theorem State.noteLevel_bits (s : State) (level : Bool) : (s.noteLevel level).bits = s.bits := rfl
@[simp] theorem State.noteLevel_winOff (s : State) (level : Bool) : (s.noteLevel level).winOff = s.winOff := rfl
@[simp] theorem State.noteLevel_rejects (s : State) (level : Bool) : (s.noteLevel level).rejects = s.rejects := rfl
@[simp] theorem State.noteLevel_resHum (s : State) (level : Bool) : (s.noteLevel level).resHum = s.resHum := rfl
@[simp] theorem State.noteLevel_resTemp (s : State) (level : Bool) : (s.noteLevel level).resTemp = s.resTemp := rfl
@[simp] theorem State.noteLevel_resTsign (s : State) (level : Bool) : (s.noteLevel level).resTsign = s.resTsign := rfl
@[simp] theorem State.noteLevel_resFrame (s : State) (level : Bool) : (s.noteLevel level).resFrame = s.resFrame := rfl
@[simp] theorem State.noteLevel_resOff (s : State) (level : Bool) : (s.noteLevel level).resOff = s.resOff := rfl
@[simp] theorem State.noteLevel_haveReading (s : State) (level : Bool) : (s.noteLevel level).haveReading = s.haveReading := rfl
@[simp] theorem State.noteLevel_hostViol (s : State) (level : Bool) : (s.noteLevel level).hostViol = s.hostViol := rfl

/-! ### tickElapsed -/

@[simp] theorem State.tickElapsed_params (s : State) : s.tickElapsed.params = s.params := rfl
@[simp] theorem State.tickElapsed_stimulus (s : State) : s.tickElapsed.stimulus = s.stimulus := rfl
@[simp] theorem State.tickElapsed_cycle (s : State) : s.tickElapsed.cycle = s.cycle := rfl
@[simp] theorem State.tickElapsed_phase (s : State) : s.tickElapsed.phase = s.phase := rfl
@[simp] theorem State.tickElapsed_status (s : State) : s.tickElapsed.status = s.status := rfl
@[simp] theorem State.tickElapsed_elapsed (s : State) : s.tickElapsed.elapsed = fitTs s.params (s.elapsed + 1) := rfl
@[simp] theorem State.tickElapsed_lastLevel (s : State) : s.tickElapsed.lastLevel = s.lastLevel := rfl
@[simp] theorem State.tickElapsed_haveLast (s : State) : s.tickElapsed.haveLast = s.haveLast := rfl
@[simp] theorem State.tickElapsed_edges (s : State) : s.tickElapsed.edges = s.edges := rfl
@[simp] theorem State.tickElapsed_clsIdx (s : State) : s.tickElapsed.clsIdx = s.clsIdx := rfl
@[simp] theorem State.tickElapsed_bits (s : State) : s.tickElapsed.bits = s.bits := rfl
@[simp] theorem State.tickElapsed_winOff (s : State) : s.tickElapsed.winOff = s.winOff := rfl
@[simp] theorem State.tickElapsed_rejects (s : State) : s.tickElapsed.rejects = s.rejects := rfl
@[simp] theorem State.tickElapsed_resHum (s : State) : s.tickElapsed.resHum = s.resHum := rfl
@[simp] theorem State.tickElapsed_resTemp (s : State) : s.tickElapsed.resTemp = s.resTemp := rfl
@[simp] theorem State.tickElapsed_resTsign (s : State) : s.tickElapsed.resTsign = s.resTsign := rfl
@[simp] theorem State.tickElapsed_resFrame (s : State) : s.tickElapsed.resFrame = s.resFrame := rfl
@[simp] theorem State.tickElapsed_resOff (s : State) : s.tickElapsed.resOff = s.resOff := rfl
@[simp] theorem State.tickElapsed_haveReading (s : State) : s.tickElapsed.haveReading = s.haveReading := rfl
@[simp] theorem State.tickElapsed_hostViol (s : State) : s.tickElapsed.hostViol = s.hostViol := rfl

/-! ### enterClassify -/

@[simp] theorem State.enterClassify_params (s : State) : s.enterClassify.params = s.params := rfl
@[simp] theorem State.enterClassify_stimulus (s : State) : s.enterClassify.stimulus = s.stimulus := rfl
@[simp] theorem State.enterClassify_cycle (s : State) : s.enterClassify.cycle = s.cycle := rfl
@[simp] theorem State.enterClassify_phase (s : State) : s.enterClassify.phase = .classify := rfl
@[simp] theorem State.enterClassify_status (s : State) : s.enterClassify.status = s.status := rfl
@[simp] theorem State.enterClassify_elapsed (s : State) : s.enterClassify.elapsed = s.elapsed := rfl
@[simp] theorem State.enterClassify_lastLevel (s : State) : s.enterClassify.lastLevel = s.lastLevel := rfl
@[simp] theorem State.enterClassify_haveLast (s : State) : s.enterClassify.haveLast = s.haveLast := rfl
@[simp] theorem State.enterClassify_edges (s : State) : s.enterClassify.edges = s.edges := rfl
@[simp] theorem State.enterClassify_clsIdx (s : State) : s.enterClassify.clsIdx = 0 := rfl
@[simp] theorem State.enterClassify_bits (s : State) : s.enterClassify.bits = s.bits := rfl
@[simp] theorem State.enterClassify_winOff (s : State) : s.enterClassify.winOff = s.winOff := rfl
@[simp] theorem State.enterClassify_rejects (s : State) : s.enterClassify.rejects = s.rejects := rfl
@[simp] theorem State.enterClassify_resHum (s : State) : s.enterClassify.resHum = s.resHum := rfl
@[simp] theorem State.enterClassify_resTemp (s : State) : s.enterClassify.resTemp = s.resTemp := rfl
@[simp] theorem State.enterClassify_resTsign (s : State) : s.enterClassify.resTsign = s.resTsign := rfl
@[simp] theorem State.enterClassify_resFrame (s : State) : s.enterClassify.resFrame = s.resFrame := rfl
@[simp] theorem State.enterClassify_resOff (s : State) : s.enterClassify.resOff = s.resOff := rfl
@[simp] theorem State.enterClassify_haveReading (s : State) : s.enterClassify.haveReading = s.haveReading := rfl
@[simp] theorem State.enterClassify_hostViol (s : State) : s.enterClassify.hostViol = s.hostViol := rfl

/-! ### nextPair -/

@[simp] theorem State.nextPair_params (s : State) : s.nextPair.params = s.params := rfl
@[simp] theorem State.nextPair_stimulus (s : State) : s.nextPair.stimulus = s.stimulus := rfl
@[simp] theorem State.nextPair_cycle (s : State) : s.nextPair.cycle = s.cycle := rfl
@[simp] theorem State.nextPair_phase (s : State) : s.nextPair.phase = s.phase := rfl
@[simp] theorem State.nextPair_status (s : State) : s.nextPair.status = s.status := rfl
@[simp] theorem State.nextPair_elapsed (s : State) : s.nextPair.elapsed = s.elapsed := rfl
@[simp] theorem State.nextPair_lastLevel (s : State) : s.nextPair.lastLevel = s.lastLevel := rfl
@[simp] theorem State.nextPair_haveLast (s : State) : s.nextPair.haveLast = s.haveLast := rfl
@[simp] theorem State.nextPair_edges (s : State) : s.nextPair.edges = s.edges := rfl
@[simp] theorem State.nextPair_clsIdx (s : State) : s.nextPair.clsIdx = fitCount s.params (s.clsIdx + 1) := rfl
@[simp] theorem State.nextPair_bits (s : State) : s.nextPair.bits = s.bits := rfl
@[simp] theorem State.nextPair_winOff (s : State) : s.nextPair.winOff = s.winOff := rfl
@[simp] theorem State.nextPair_rejects (s : State) : s.nextPair.rejects = s.rejects := rfl
@[simp] theorem State.nextPair_resHum (s : State) : s.nextPair.resHum = s.resHum := rfl
@[simp] theorem State.nextPair_resTemp (s : State) : s.nextPair.resTemp = s.resTemp := rfl
@[simp] theorem State.nextPair_resTsign (s : State) : s.nextPair.resTsign = s.resTsign := rfl
@[simp] theorem State.nextPair_resFrame (s : State) : s.nextPair.resFrame = s.resFrame := rfl
@[simp] theorem State.nextPair_resOff (s : State) : s.nextPair.resOff = s.resOff := rfl
@[simp] theorem State.nextPair_haveReading (s : State) : s.nextPair.haveReading = s.haveReading := rfl
@[simp] theorem State.nextPair_hostViol (s : State) : s.nextPair.hostViol = s.hostViol := rfl

/-! ### enterDecode -/

@[simp] theorem State.enterDecode_params (s : State) : s.enterDecode.params = s.params := rfl
@[simp] theorem State.enterDecode_stimulus (s : State) : s.enterDecode.stimulus = s.stimulus := rfl
@[simp] theorem State.enterDecode_cycle (s : State) : s.enterDecode.cycle = s.cycle := rfl
@[simp] theorem State.enterDecode_phase (s : State) : s.enterDecode.phase = .decode := rfl
@[simp] theorem State.enterDecode_status (s : State) : s.enterDecode.status = s.status := rfl
@[simp] theorem State.enterDecode_elapsed (s : State) : s.enterDecode.elapsed = s.elapsed := rfl
@[simp] theorem State.enterDecode_lastLevel (s : State) : s.enterDecode.lastLevel = s.lastLevel := rfl
@[simp] theorem State.enterDecode_haveLast (s : State) : s.enterDecode.haveLast = s.haveLast := rfl
@[simp] theorem State.enterDecode_edges (s : State) : s.enterDecode.edges = s.edges := rfl
@[simp] theorem State.enterDecode_clsIdx (s : State) : s.enterDecode.clsIdx = s.clsIdx := rfl
@[simp] theorem State.enterDecode_bits (s : State) : s.enterDecode.bits = s.bits := rfl
@[simp] theorem State.enterDecode_winOff (s : State) : s.enterDecode.winOff = 0 := rfl
@[simp] theorem State.enterDecode_rejects (s : State) : s.enterDecode.rejects = s.rejects := rfl
@[simp] theorem State.enterDecode_resHum (s : State) : s.enterDecode.resHum = s.resHum := rfl
@[simp] theorem State.enterDecode_resTemp (s : State) : s.enterDecode.resTemp = s.resTemp := rfl
@[simp] theorem State.enterDecode_resTsign (s : State) : s.enterDecode.resTsign = s.resTsign := rfl
@[simp] theorem State.enterDecode_resFrame (s : State) : s.enterDecode.resFrame = s.resFrame := rfl
@[simp] theorem State.enterDecode_resOff (s : State) : s.enterDecode.resOff = s.resOff := rfl
@[simp] theorem State.enterDecode_haveReading (s : State) : s.enterDecode.haveReading = s.haveReading := rfl
@[simp] theorem State.enterDecode_hostViol (s : State) : s.enterDecode.hostViol = s.hostViol := rfl

/-! ### rejectWindow -/

@[simp] theorem State.rejectWindow_params (s : State) : s.rejectWindow.params = s.params := rfl
@[simp] theorem State.rejectWindow_stimulus (s : State) : s.rejectWindow.stimulus = s.stimulus := rfl
@[simp] theorem State.rejectWindow_cycle (s : State) : s.rejectWindow.cycle = s.cycle := rfl
@[simp] theorem State.rejectWindow_phase (s : State) : s.rejectWindow.phase = s.phase := rfl
@[simp] theorem State.rejectWindow_status (s : State) : s.rejectWindow.status = s.status := rfl
@[simp] theorem State.rejectWindow_elapsed (s : State) : s.rejectWindow.elapsed = s.elapsed := rfl
@[simp] theorem State.rejectWindow_lastLevel (s : State) : s.rejectWindow.lastLevel = s.lastLevel := rfl
@[simp] theorem State.rejectWindow_haveLast (s : State) : s.rejectWindow.haveLast = s.haveLast := rfl
@[simp] theorem State.rejectWindow_edges (s : State) : s.rejectWindow.edges = s.edges := rfl
@[simp] theorem State.rejectWindow_clsIdx (s : State) : s.rejectWindow.clsIdx = s.clsIdx := rfl
@[simp] theorem State.rejectWindow_bits (s : State) : s.rejectWindow.bits = s.bits := rfl
@[simp] theorem State.rejectWindow_winOff (s : State) : s.rejectWindow.winOff = fitCount s.params (s.winOff + 1) := rfl
@[simp] theorem State.rejectWindow_rejects (s : State) : s.rejectWindow.rejects = fitCount s.params (s.rejects + 1) := rfl
@[simp] theorem State.rejectWindow_resHum (s : State) : s.rejectWindow.resHum = s.resHum := rfl
@[simp] theorem State.rejectWindow_resTemp (s : State) : s.rejectWindow.resTemp = s.resTemp := rfl
@[simp] theorem State.rejectWindow_resTsign (s : State) : s.rejectWindow.resTsign = s.resTsign := rfl
@[simp] theorem State.rejectWindow_resFrame (s : State) : s.rejectWindow.resFrame = s.resFrame := rfl
@[simp] theorem State.rejectWindow_resOff (s : State) : s.rejectWindow.resOff = s.resOff := rfl
@[simp] theorem State.rejectWindow_haveReading (s : State) : s.rejectWindow.haveReading = s.haveReading := rfl
@[simp] theorem State.rejectWindow_hostViol (s : State) : s.rejectWindow.hostViol = s.hostViol := rfl

/-! ### storeReading -/

@[simp] theorem State.storeReading_params (s : State) (w : FrameWord) : (s.storeReading w).params = s.params := rfl
@[simp] theorem State.storeReading_stimulus (s : State) (w : FrameWord) : (s.storeReading w).stimulus = s.stimulus := rfl
@[simp] theorem State.storeReading_cycle (s : State) (w : FrameWord) : (s.storeReading w).cycle = s.cycle := rfl
@[simp] theorem State.storeReading_phase (s : State) (w : FrameWord) : (s.storeReading w).phase = s.phase := rfl
@[simp] theorem State.storeReading_status (s : State) (w : FrameWord) : (s.storeReading w).status = s.status := rfl
@[simp] theorem State.storeReading_elapsed (s : State) (w : FrameWord) : (s.storeReading w).elapsed = s.elapsed := rfl
@[simp] theorem State.storeReading_lastLevel (s : State) (w : FrameWord) : (s.storeReading w).lastLevel = s.lastLevel := rfl
@[simp] theorem State.storeReading_haveLast (s : State) (w : FrameWord) : (s.storeReading w).haveLast = s.haveLast := rfl
@[simp] theorem State.storeReading_edges (s : State) (w : FrameWord) : (s.storeReading w).edges = s.edges := rfl
@[simp] theorem State.storeReading_clsIdx (s : State) (w : FrameWord) : (s.storeReading w).clsIdx = s.clsIdx := rfl
@[simp] theorem State.storeReading_bits (s : State) (w : FrameWord) : (s.storeReading w).bits = s.bits := rfl
@[simp] theorem State.storeReading_winOff (s : State) (w : FrameWord) : (s.storeReading w).winOff = s.winOff := rfl
@[simp] theorem State.storeReading_rejects (s : State) (w : FrameWord) : (s.storeReading w).rejects = s.rejects := rfl
@[simp] theorem State.storeReading_resHum (s : State) (w : FrameWord) : (s.storeReading w).resHum = humidityOf w := rfl
@[simp] theorem State.storeReading_resTemp (s : State) (w : FrameWord) : (s.storeReading w).resTemp = temperatureOf w := rfl
@[simp] theorem State.storeReading_resTsign (s : State) (w : FrameWord) : (s.storeReading w).resTsign = tempSignOf w := rfl
@[simp] theorem State.storeReading_resFrame (s : State) (w : FrameWord) : (s.storeReading w).resFrame = w := rfl
@[simp] theorem State.storeReading_resOff (s : State) (w : FrameWord) : (s.storeReading w).resOff = s.winOff := rfl
@[simp] theorem State.storeReading_haveReading (s : State) (w : FrameWord) : (s.storeReading w).haveReading = true := rfl
@[simp] theorem State.storeReading_hostViol (s : State) (w : FrameWord) : (s.storeReading w).hostViol = s.hostViol := rfl

/-! ### pushEdge -/

@[simp] theorem State.pushEdge_params (s : State) (ts : Nat) (kind : Bool) : (s.pushEdge ts kind).params = s.params := rfl
@[simp] theorem State.pushEdge_stimulus (s : State) (ts : Nat) (kind : Bool) : (s.pushEdge ts kind).stimulus = s.stimulus := rfl
@[simp] theorem State.pushEdge_cycle (s : State) (ts : Nat) (kind : Bool) : (s.pushEdge ts kind).cycle = s.cycle := rfl
@[simp] theorem State.pushEdge_phase (s : State) (ts : Nat) (kind : Bool) : (s.pushEdge ts kind).phase = s.phase := rfl
@[simp] theorem State.pushEdge_status (s : State) (ts : Nat) (kind : Bool) : (s.pushEdge ts kind).status = s.status := rfl
@[simp] theorem State.pushEdge_elapsed (s : State) (ts : Nat) (kind : Bool) : (s.pushEdge ts kind).elapsed = s.elapsed := rfl
@[simp] theorem State.pushEdge_lastLevel (s : State) (ts : Nat) (kind : Bool) : (s.pushEdge ts kind).lastLevel = s.lastLevel := rfl
@[simp] theorem State.pushEdge_haveLast (s : State) (ts : Nat) (kind : Bool) : (s.pushEdge ts kind).haveLast = s.haveLast := rfl
@[simp] theorem State.pushEdge_edges (s : State) (ts : Nat) (kind : Bool) : (s.pushEdge ts kind).edges = s.edges ++ [{ ts := fitTs s.params ts, kind := kind }] := rfl
@[simp] theorem State.pushEdge_clsIdx (s : State) (ts : Nat) (kind : Bool) : (s.pushEdge ts kind).clsIdx = s.clsIdx := rfl
@[simp] theorem State.pushEdge_bits (s : State) (ts : Nat) (kind : Bool) : (s.pushEdge ts kind).bits = s.bits := rfl
@[simp] theorem State.pushEdge_winOff (s : State) (ts : Nat) (kind : Bool) : (s.pushEdge ts kind).winOff = s.winOff := rfl
@[simp] theorem State.pushEdge_rejects (s : State) (ts : Nat) (kind : Bool) : (s.pushEdge ts kind).rejects = s.rejects := rfl
@[simp] theorem State.pushEdge_resHum (s : State) (ts : Nat) (kind : Bool) : (s.pushEdge ts kind).resHum = s.resHum := rfl
@[simp] theorem State.pushEdge_resTemp (s : State) (ts : Nat) (kind : Bool) : (s.pushEdge ts kind).resTemp = s.resTemp := rfl
@[simp] theorem State.pushEdge_resTsign (s : State) (ts : Nat) (kind : Bool) : (s.pushEdge ts kind).resTsign = s.resTsign := rfl
@[simp] theorem State.pushEdge_resFrame (s : State) (ts : Nat) (kind : Bool) : (s.pushEdge ts kind).resFrame = s.resFrame := rfl
@[simp] theorem State.pushEdge_resOff (s : State) (ts : Nat) (kind : Bool) : (s.pushEdge ts kind).resOff = s.resOff := rfl
@[simp] theorem State.pushEdge_haveReading (s : State) (ts : Nat) (kind : Bool) : (s.pushEdge ts kind).haveReading = s.haveReading := rfl
@[simp] theorem State.pushEdge_hostViol (s : State) (ts : Nat) (kind : Bool) : (s.pushEdge ts kind).hostViol = s.hostViol := rfl

/-! ### pushBit -/

@[simp] theorem State.pushBit_params (s : State) (b : Bool) : (s.pushBit b).params = s.params := rfl
@[simp] theorem State.pushBit_stimulus (s : State) (b : Bool) : (s.pushBit b).stimulus = s.stimulus := rfl
@[simp] theorem State.pushBit_cycle (s : State) (b : Bool) : (s.pushBit b).cycle = s.cycle := rfl
@[simp] theorem State.pushBit_phase (s : State) (b : Bool) : (s.pushBit b).phase = s.phase := rfl
@[simp] theorem State.pushBit_status (s : State) (b : Bool) : (s.pushBit b).status = s.status := rfl
@[simp] theorem State.pushBit_elapsed (s : State) (b : Bool) : (s.pushBit b).elapsed = s.elapsed := rfl
@[simp] theorem State.pushBit_lastLevel (s : State) (b : Bool) : (s.pushBit b).lastLevel = s.lastLevel := rfl
@[simp] theorem State.pushBit_haveLast (s : State) (b : Bool) : (s.pushBit b).haveLast = s.haveLast := rfl
@[simp] theorem State.pushBit_edges (s : State) (b : Bool) : (s.pushBit b).edges = s.edges := rfl
@[simp] theorem State.pushBit_clsIdx (s : State) (b : Bool) : (s.pushBit b).clsIdx = s.clsIdx := rfl
@[simp] theorem State.pushBit_bits (s : State) (b : Bool) : (s.pushBit b).bits = s.bits ++ [b] := rfl
@[simp] theorem State.pushBit_winOff (s : State) (b : Bool) : (s.pushBit b).winOff = s.winOff := rfl
@[simp] theorem State.pushBit_rejects (s : State) (b : Bool) : (s.pushBit b).rejects = s.rejects := rfl
@[simp] theorem State.pushBit_resHum (s : State) (b : Bool) : (s.pushBit b).resHum = s.resHum := rfl
@[simp] theorem State.pushBit_resTemp (s : State) (b : Bool) : (s.pushBit b).resTemp = s.resTemp := rfl
@[simp] theorem State.pushBit_resTsign (s : State) (b : Bool) : (s.pushBit b).resTsign = s.resTsign := rfl
@[simp] theorem State.pushBit_resFrame (s : State) (b : Bool) : (s.pushBit b).resFrame = s.resFrame := rfl
@[simp] theorem State.pushBit_resOff (s : State) (b : Bool) : (s.pushBit b).resOff = s.resOff := rfl
@[simp] theorem State.pushBit_haveReading (s : State) (b : Bool) : (s.pushBit b).haveReading = s.haveReading := rfl
@[simp] theorem State.pushBit_hostViol (s : State) (b : Bool) : (s.pushBit b).hostViol = s.hostViol := rfl

/-! ### advance -/

@[simp] theorem State.advance_params (s : State) : s.advance.params = s.params := rfl
@[simp] theorem State.advance_stimulus (s : State) : s.advance.stimulus = s.stimulus.tail := rfl
@[simp] theorem State.advance_cycle (s : State) : s.advance.cycle = s.cycle + 1 := rfl
@[simp] theorem State.advance_phase (s : State) : s.advance.phase = s.phase := rfl
@[simp] theorem State.advance_status (s : State) : s.advance.status = s.status := rfl
@[simp] theorem State.advance_elapsed (s : State) : s.advance.elapsed = s.elapsed := rfl
@[simp] theorem State.advance_lastLevel (s : State) : s.advance.lastLevel = s.lastLevel := rfl
@[simp] theorem State.advance_haveLast (s : State) : s.advance.haveLast = s.haveLast := rfl
@[simp] theorem State.advance_edges (s : State) : s.advance.edges = s.edges := rfl
@[simp] theorem State.advance_clsIdx (s : State) : s.advance.clsIdx = s.clsIdx := rfl
@[simp] theorem State.advance_bits (s : State) : s.advance.bits = s.bits := rfl
@[simp] theorem State.advance_winOff (s : State) : s.advance.winOff = s.winOff := rfl
@[simp] theorem State.advance_rejects (s : State) : s.advance.rejects = s.rejects := rfl
@[simp] theorem State.advance_resHum (s : State) : s.advance.resHum = s.resHum := rfl
@[simp] theorem State.advance_resTemp (s : State) : s.advance.resTemp = s.resTemp := rfl
@[simp] theorem State.advance_resTsign (s : State) : s.advance.resTsign = s.resTsign := rfl
@[simp] theorem State.advance_resFrame (s : State) : s.advance.resFrame = s.resFrame := rfl
@[simp] theorem State.advance_resOff (s : State) : s.advance.resOff = s.resOff := rfl
@[simp] theorem State.advance_haveReading (s : State) : s.advance.haveReading = s.haveReading := rfl
@[simp] theorem State.advance_hostViol (s : State) : s.advance.hostViol = s.hostViol := rfl

/-! ### resetWith -/

@[simp] theorem State.resetWith_params (p : Params) (w : List InWord) : (State.resetWith p w).params = p := rfl
@[simp] theorem State.resetWith_stimulus (p : Params) (w : List InWord) : (State.resetWith p w).stimulus = w := rfl
@[simp] theorem State.resetWith_cycle (p : Params) (w : List InWord) : (State.resetWith p w).cycle = 0 := rfl
@[simp] theorem State.resetWith_phase (p : Params) (w : List InWord) : (State.resetWith p w).phase = .idle := rfl
@[simp] theorem State.resetWith_status (p : Params) (w : List InWord) : (State.resetWith p w).status = .noAttempt := rfl
@[simp] theorem State.resetWith_elapsed (p : Params) (w : List InWord) : (State.resetWith p w).elapsed = 0 := rfl
@[simp] theorem State.resetWith_lastLevel (p : Params) (w : List InWord) : (State.resetWith p w).lastLevel = false := rfl
@[simp] theorem State.resetWith_haveLast (p : Params) (w : List InWord) : (State.resetWith p w).haveLast = false := rfl
@[simp] theorem State.resetWith_edges (p : Params) (w : List InWord) : (State.resetWith p w).edges = [] := rfl
@[simp] theorem State.resetWith_clsIdx (p : Params) (w : List InWord) : (State.resetWith p w).clsIdx = 0 := rfl
@[simp] theorem State.resetWith_bits (p : Params) (w : List InWord) : (State.resetWith p w).bits = [] := rfl
@[simp] theorem State.resetWith_winOff (p : Params) (w : List InWord) : (State.resetWith p w).winOff = 0 := rfl
@[simp] theorem State.resetWith_rejects (p : Params) (w : List InWord) : (State.resetWith p w).rejects = 0 := rfl
@[simp] theorem State.resetWith_resHum (p : Params) (w : List InWord) : (State.resetWith p w).resHum = 0#16 := rfl
@[simp] theorem State.resetWith_resTemp (p : Params) (w : List InWord) : (State.resetWith p w).resTemp = 0#16 := rfl
@[simp] theorem State.resetWith_resTsign (p : Params) (w : List InWord) : (State.resetWith p w).resTsign = false := rfl
@[simp] theorem State.resetWith_resFrame (p : Params) (w : List InWord) : (State.resetWith p w).resFrame = 0#40 := rfl
@[simp] theorem State.resetWith_resOff (p : Params) (w : List InWord) : (State.resetWith p w).resOff = 0 := rfl
@[simp] theorem State.resetWith_haveReading (p : Params) (w : List InWord) : (State.resetWith p w).haveReading = false := rfl
@[simp] theorem State.resetWith_hostViol (p : Params) (w : List InWord) : (State.resetWith p w).hostViol = false := rfl

end Sys2Proof.Machine
end

