-- ==== Sys2Proof/Laws/Ops.lean ====
section
/-! SUPPORT. One lemma per shared operation that says once what it can do, that the buffers keep their form, and
the small lemmas of the shared definitions. -/

namespace Sys2Proof.Machine

/-! ### andThen -/

/-- A composition answers a next state exactly where both its parts do. -/
theorem andThen_eq_next {r : Result} {f : State → Result} {t : State} :
    andThen r f = .next t ↔ ∃ u, r = .next u ∧ f u = .next t := by
  cases r <;> simp [andThen]

@[simp] theorem andThen_next (s : State) (f : State → Result) : andThen (.next s) f = f s := rfl
@[simp] theorem andThen_fault (e : Fault) (f : State → Result) : andThen (.fault e) f = .fault e := rfl
@[simp] theorem andThen_refused (e : Refusal) (f : State → Result) : andThen (.refused e) f = .refused e := rfl

/-! ### Registers of a parameter's width -/

theorem fitTs_of_lt {p : Params} {v : Nat} (h : v < 2 ^ p.tsW) : fitTs p v = v := Nat.mod_eq_of_lt h

theorem fitCount_of_lt {p : Params} {v : Nat} (h : v < 2 ^ countWidth p) : fitCount p v = v := Nat.mod_eq_of_lt h

theorem fitTs_lt (p : Params) (v : Nat) : fitTs p v < 2 ^ p.tsW := Nat.mod_lt _ (Nat.two_pow_pos _)

theorem fitCount_lt (p : Params) (v : Nat) : fitCount p v < 2 ^ countWidth p := Nat.mod_lt _ (Nat.two_pow_pos _)

/-- A `CW`-bit register holds MAX_EDGES (D29). -/
theorem maxEdges_lt_countWidth (p : Params) : p.maxEdges < 2 ^ countWidth p := Nat.lt_log2_self

/-- `CW` is the ceiling logarithm that R7 writes. -/
theorem countWidth_eq_clog (p : Params) (h : 1 ≤ p.maxEdges) : countWidth p = Nat.clog 2 (p.maxEdges + 1) := by
  apply le_antisymm
  · exact Nat.succ_le_of_lt ((Nat.lt_clog_iff_pow_lt (by omega)).mpr
      (Nat.lt_succ_of_le (Nat.log2_self_le (by omega))))
  · exact (Nat.clog_le_iff_le_pow (by omega)).mpr (maxEdges_lt_countWidth p)

/-! ### Buffers -/

/-- What EdgeAppend can do. -/
theorem edgeAppend_eq_ok {s t : State} {ts : Nat} {kind : Bool} :
    edgeAppend s ts kind = .ok t ↔ s.edgeCount < s.params.maxEdges ∧ t = s.pushEdge ts kind := by
  unfold edgeAppend
  split <;> simp_all [eq_comm]

/-- What EdgeRead can do. -/
theorem edgeRead_eq_ok {s : State} {i : Nat} {e : EdgeEvent} : edgeRead s i = .ok e ↔ s.edges[i]? = some e := by
  unfold edgeRead
  split <;> simp_all

/-- What BitAppend can do. -/
theorem bitAppend_eq_ok {s t : State} {b : Bool} :
    bitAppend s b = .ok t ↔ s.bitCount < bitCap s.params ∧ t = s.pushBit b := by
  unfold bitAppend
  split <;> simp_all [eq_comm]

/-- What BitRead can do. -/
theorem bitRead_eq_ok {s : State} {j : Nat} {b : Bool} : bitRead s j = .ok b ↔ s.bits[j]? = some b := by
  unfold bitRead
  split <;> simp_all

/-- What Window can do. -/
theorem readWindow_eq_ok {s : State} {k : Nat} {w : FrameWord} :
    readWindow s k = .ok w ↔ k + 40 ≤ s.bitCount ∧ w = windowOf s.bits k := by
  unfold readWindow frameBits
  split <;> simp_all [eq_comm]

theorem buffersWf_iff {s : State} :
    s.buffersWf = true ↔ s.edges.length ≤ s.params.maxEdges ∧ s.bits.length ≤ bitCap s.params := by
  simp [State.buffersWf]

/-- EdgeAppend keeps the buffers' form. -/
theorem edgeAppend_keeps_buffersWf {s t : State} {ts : Nat} {kind : Bool} (h : edgeAppend s ts kind = .ok t)
    (wf : s.buffersWf = true) : t.buffersWf = true := by
  obtain ⟨room, rfl⟩ := edgeAppend_eq_ok.mp h
  obtain ⟨-, bitsFit⟩ := buffersWf_iff.mp wf
  exact buffersWf_iff.mpr ⟨by simpa [State.edgeCount, Nat.succ_le_iff] using room, bitsFit⟩

/-- BitAppend keeps the buffers' form. -/
theorem bitAppend_keeps_buffersWf {s t : State} {b : Bool} (h : bitAppend s b = .ok t)
    (wf : s.buffersWf = true) : t.buffersWf = true := by
  obtain ⟨room, rfl⟩ := bitAppend_eq_ok.mp h
  obtain ⟨edgesFit, -⟩ := buffersWf_iff.mp wf
  exact buffersWf_iff.mpr ⟨edgesFit, by simpa [State.bitCount, Nat.succ_le_iff] using room⟩

/-- START and RESET leave empty buffers, which have the form. -/
theorem beginAttempt_buffersWf (s : State) : s.beginAttempt.buffersWf = true := by simp [State.buffersWf]

theorem resetElements_buffersWf (s : State) : s.resetElements.buffersWf = true := by simp [State.buffersWf]

theorem resetWith_buffersWf (p : Params) (w : List InWord) : (State.resetWith p w).buffersWf = true := by
  simp [State.buffersWf]

/-! ### The tail of a poll -/

/-- What the tail of a poll can do. -/
theorem captureTail_cases (s : State) :
    ((s.edgeCount = s.params.maxEdges ∨ s.elapsed = s.params.captureTicks) ∧
        captureTail s = s.tickElapsed.enterClassify) ∨
      (s.edgeCount ≠ s.params.maxEdges ∧ s.elapsed ≠ s.params.captureTicks ∧ captureTail s = s.tickElapsed) := by
  unfold captureTail
  split
  · exact .inl ⟨‹_›, rfl⟩
  · rename_i h
    push Not at h
    exact .inr ⟨h.1, h.2, rfl⟩

/-! ### Windows -/

theorem packBits_append_singleton (bs : List Bool) (b : Bool) :
    packBits (bs ++ [b]) = 2 * packBits bs + b.toNat := by simp [packBits]

/-- The number of a list of bits, read bit by bit: its last bit is bit 0. -/
theorem testBit_packBits (bs : List Bool) (i : Nat) :
    (packBits bs).testBit i = if i < bs.length then bs.getD (bs.length - 1 - i) false else false := by
  induction bs using List.reverseRecOn generalizing i with
  | nil => simp [packBits]
  | append_singleton bs b ih =>
    rw [packBits_append_singleton]
    cases i with
    | zero => cases b <;> simp [Nat.testBit_zero, Nat.add_mod]
    | succ i =>
      rw [Nat.testBit_succ, show (2 * packBits bs + b.toNat) / 2 = packBits bs by cases b <;> simp; omega, ih]
      simp only [List.length_append, List.length_singleton]
      by_cases h : i < bs.length
      · rw [if_pos h, if_pos (by omega)]
        simp only [List.getD_eq_getElem?_getD]
        rw [List.getElem?_append_left (by omega)]
        congr 2
        omega
      · rw [if_neg h, if_neg (by omega)]

/-- R57: `W[39 - m] = BitRead(k + m)`. -/
theorem windowOf_bit (bs : List Bool) (k m : Nat) (hm : m < 40) (hk : k + 40 ≤ bs.length) :
    (windowOf bs k).getLsbD (39 - m) = bs.getD (k + m) false := by
  have hlen : ((bs.drop k).take 40).length = 40 := by simp; omega
  rw [windowOf, frameBits, BitVec.getLsbD_ofNat, testBit_packBits, hlen, if_pos (by omega)]
  simp only [show 39 - m < 40 by omega, decide_true, Bool.true_and, List.getD_eq_getElem?_getD,
    show 40 - 1 - (39 - m) = m by omega]
  rw [List.getElem?_take_of_lt hm, List.getElem?_drop]

end Sys2Proof.Machine
end

