-- ==== Sys2Proof/Laws/PerInstr.lean ====
section
/-! SUPPORT. A family of facts about every operation's row of R83, one lemma per constructor: the row applies to
its own word whatever the bits it ignores are, and no ignored bit is part of its match (C5). -/

namespace Sys2Proof.Laws.RowAccepts

/-- The row matches its own words, and `match & ~mask == 0`. -/
def Statement (i : Instr) : Prop :=
  i.matchBits &&& ~~~i.mask = 0#13 ∧ ∀ other : SelWord, i.applies (i.encodeWith other) = true

/-- From the row's own two constants to the family's statement. -/
theorem of_row {i : Instr} (h : i.matchBits &&& ~~~i.mask = 0#13) (h' : i.matchBits &&& i.mask = i.matchBits) :
    Statement i := by
  refine ⟨h, fun other => ?_⟩
  have split : (i.matchBits ||| other &&& ~~~i.mask) &&& i.mask = i.matchBits &&& i.mask := by
    apply BitVec.eq_of_getLsbD_eq
    intro j hj
    simp only [BitVec.getLsbD_and, BitVec.getLsbD_or, BitVec.getLsbD_not, hj, decide_true, Bool.true_and]
    cases i.matchBits.getLsbD j <;> cases i.mask.getLsbD j <;> simp
  simp [Instr.applies, Instr.encodeWith, split, h']

theorem reset : Statement .reset := of_row (by decide) (by decide)
theorem start : Statement .start := of_row (by decide) (by decide)
theorem idleHold : Statement .idleHold := of_row (by decide) (by decide)
theorem busyStart : Statement .busyStart := of_row (by decide) (by decide)
theorem capAbort : Statement .capAbort := of_row (by decide) (by decide)
theorem capSeed : Statement .capSeed := of_row (by decide) (by decide)
theorem capEdge : Statement .capEdge := of_row (by decide) (by decide)
theorem capSame : Statement .capSame := of_row (by decide) (by decide)
theorem clsPairFall : Statement .clsPairFall := of_row (by decide) (by decide)
theorem clsPairRise : Statement .clsPairRise := of_row (by decide) (by decide)
theorem clsEnd : Statement .clsEnd := of_row (by decide) (by decide)
theorem decInsuf : Statement .decInsuf := of_row (by decide) (by decide)
theorem decExhaust : Statement .decExhaust := of_row (by decide) (by decide)
theorem decMatch : Statement .decMatch := of_row (by decide) (by decide)
theorem decMismatch : Statement .decMismatch := of_row (by decide) (by decide)

end Sys2Proof.Laws.RowAccepts
end

