-- ==== Sys2Proof/Laws/Step.lean ====
section
/-! SUPPORT. What a selector word formed from conditions decodes to, and what a step can do. -/

namespace Sys2Proof.Machine

/-- R82: the match and mask values select by that order, and RESET overrides. One phase at a time, over every
value of the conditions. -/
theorem decode_selWord (rst bs ck wa sh sf pa ch hl le st : Bool) (ph : Phase) :
    Sys2Proof.decode (selWord rst bs ck wa sh sf pa ch hl le st ph) =
      .ok (if rst then .override else .run (rowOfConditions ck wa sh sf pa ch hl le st ph) bs) := by
  cases ph <;> cases rst <;> revert bs ck wa sh sf pa ch hl le st <;> decide +kernel

/-- What the selector of a state decodes to. -/
theorem decode_sel (s : State) :
    Sys2Proof.decode s.sel =
      .ok (if s.pins.rst then .override else .run s.row s.startWhileBusy) :=
  decode_selWord ..

/-- What a step can do: a reset, or the primary operation its selector names, with the violation mark where START
came while busy; then the edge is counted. -/
theorem step_cases {s t : State} (h : step s = .next t) :
    s.params.WellFormed ∧
      ((s.pins.rst = true ∧ t = s.resetElements.advance) ∨
        (s.pins.rst = false ∧ s.status.isReserved = false ∧
          ∃ u, exec s.row s = .next u ∧
            t = (if s.startWhileBusy then u.markViolation else u).advance)) := by
  rw [step, cycleStep, decode_sel] at h
  split at h
  · refine ⟨‹_›, ?_⟩
    cases hr : s.pins.rst
    · right
      simp only [hr, Bool.false_eq_true, if_false] at h
      cases hs : s.status.isReserved
      · simp only [hs, Bool.false_eq_true, if_false] at h
        obtain ⟨v, hv, ht⟩ := andThen_eq_next.mp h
        cases hb : s.startWhileBusy
        · rw [hb] at hv
          exact ⟨rfl, rfl, v, hv, by simpa using ht.symm⟩
        · rw [hb] at hv
          obtain ⟨u, hu, hv⟩ := andThen_eq_next.mp hv
          refine ⟨rfl, rfl, u, hu, ?_⟩
          simp only [exec, execBusyStart, Host.Outcome.next.injEq] at hv ht
          simp [← ht, ← hv]
      · simp [hs] at h
    · left
      simpa [hr, runSelection, exec, execReset, eq_comm] using h
  · cases h

end Sys2Proof.Machine
end

