-- ==== Sys2Proof/Machine/Outcomes.lean ====
section
/-! DEFINITION. The error taxonomy of R191: every error and event the source names, what kind it is, its STATUS
code and the operation that raises it. -/

namespace Sys2Proof.Machine

/-- The source's errors, the success, and the host's protocol violation (R191). -/
inductive Event where
  | lineAcquisitionFailed
  | lineIoFailed
  | insufficientData
  | checksumMismatch
  | noValidFrame
  | success
  | hostViolation
deriving DecidableEq, Repr

/-- The kind column of R191. -/
inductive EventKind where
  | hostSide
  | terminal
  | nonTerminal
  | stickyFlag
deriving DecidableEq, Repr

/-- R191, R190. -/
def Event.kind : Event → EventKind
  | .lineAcquisitionFailed => .hostSide
  | .lineIoFailed | .insufficientData | .noValidFrame | .success => .terminal
  | .checksumMismatch => .nonTerminal
  | .hostViolation => .stickyFlag

/-- The STATUS code column of R191; 0b110 is reserved for the host's own error. -/
def Event.status : Event → Option Status
  | .lineAcquisitionFailed => some .reserved6
  | .lineIoFailed => some .lineIoFailed
  | .insufficientData => some .insufficientData
  | .noValidFrame => some .noValidFrame
  | .success => some .ok
  | .checksumMismatch | .hostViolation => none

/-- The raised-by column of R191; the host's own error is raised by no operation. -/
def Event.raisedBy : Event → Option Instr
  | .lineAcquisitionFailed => none
  | .lineIoFailed => some .capAbort
  | .insufficientData => some .decInsuf
  | .checksumMismatch => some .decMismatch
  | .noValidFrame => some .decExhaust
  | .success => some .decMatch
  | .hostViolation => some .busyStart

end Sys2Proof.Machine
end

