-- ==== Sys2Proof/Machine/Script.lean ====
section
/-! DEFINITION. The block's "programs": stimulus scripts and their expansion into input words (R85, R86). -/

namespace Sys2Proof.Machine

/-- The script items of R86. -/
inductive ScriptItem where
  | rst
  | go
  | goLow
  | hi (n : Nat)
  | lo (n : Nat)
  | err
  | bit (b : Bool)
  | byte (v : Byte)
  | frame (a b c d e : Byte)
  | idle (n : Nat)
  | raw (w : InWord)
deriving DecidableEq, Repr

/-- `BIT0` is `LO 50; HI 26` and `BIT1` is `LO 50; HI 70` (R86). -/
def expandBit (b : Bool) : List InWord :=
  List.replicate 50 0x0#4 ++ List.replicate (if b then 70 else 26) 0x1#4

/-- `BYTE v` is the bits of `v` from bit 7 down (R86). -/
def expandByte (v : Byte) : List InWord :=
  expandBit (v.getLsbD 7) ++ expandBit (v.getLsbD 6) ++ expandBit (v.getLsbD 5) ++ expandBit (v.getLsbD 4) ++
    expandBit (v.getLsbD 3) ++ expandBit (v.getLsbD 2) ++ expandBit (v.getLsbD 1) ++ expandBit (v.getLsbD 0)

/-- The expansion column of R86. -/
def ScriptItem.expand : ScriptItem → List InWord
  | .rst => [0x8#4]
  | .go => [0x5#4]
  | .goLow => [0x4#4]
  | .hi n => List.replicate n 0x1#4
  | .lo n => List.replicate n 0x0#4
  | .err => [0x2#4]
  | .bit b => expandBit b
  | .byte v => expandByte v
  | .frame a b c d e => expandByte a ++ expandByte b ++ expandByte c ++ expandByte d ++ expandByte e
  | .idle n => List.replicate n 0x0#4
  | .raw w => [w]

/-- A script as the list of input words of its cycles (R85, R86). -/
def expandScript (items : List ScriptItem) : List InWord := items.flatMap ScriptItem.expand

end Sys2Proof.Machine
end

