-- ==== Sys2Proof/Machine/Trace.lean ====
section
/-! DEFINITION. The trace line of a cycle (R84; assumption log 11): the cycle, the operations, and the state
elements that their rules write, with the values they hold after the edge. -/

namespace Sys2Proof.Machine

/-- `<element>=<value>` (R84). -/
def written (element : String) (value : Nat) : String := element ++ "=" ++ toString value

/-- An entry of a buffer: `<buffer>[<index>]` (R84's example). -/
def entryName (buffer : String) (index : Nat) : String := buffer ++ "[" ++ toString index ++ "]"

/-- The elements that `Finish` and every phase change write (R192). -/
def writtenPhase (t : State) : List String := [written "PHASE" t.phase.code.toNat]

/-- The elements of `Finish(code)` (R192). -/
def writtenFinish (t : State) : List String := writtenPhase t ++ [written "STATUS" t.status.code.toNat]

/-- The elements that the tail of a poll writes (R121). -/
def writtenTail (t : State) : List String :=
  written "ELAPSED" t.elapsed ::
    match t.phase with
    | .capture => []
    | .idle | .classify | .decode => writtenPhase t ++ [written "CLS_IDX" t.clsIdx]

/-- The elements that START writes, and RESET among others (R100, R104). -/
def writtenAttempt (t : State) : List String :=
  writtenFinish t ++
    [written "ELAPSED" t.elapsed, written "LAST_LEVEL" t.lastLevel.toNat, written "HAVE_LAST" t.haveLast.toNat,
     written "EDGE_COUNT" t.edgeCount, written "CLS_IDX" t.clsIdx, written "BIT_COUNT" t.bitCount,
     written "WIN_OFF" t.winOff, written "REJECTS" t.rejects]

/-- The result registers and HAVE_READING (R31, R32). -/
def writtenResults (t : State) : List String :=
  [written "RES_FRAME" t.resFrame.toNat, written "RES_HUM" t.resHum.toNat, written "RES_TSIGN" t.resTsign.toNat,
   written "RES_TEMP" t.resTemp.toNat, written "RES_OFF" t.resOff, written "HAVE_READING" t.haveReading.toNat]

/-- The newest entry of the edge buffer, in R84's form. -/
def writtenEdge (t : State) : List String :=
  match t.edges.getLast? with
  | some e =>
    [written (entryName "EDGE_TS" (t.edgeCount - 1)) e.ts,
     written (entryName "EDGE_KIND" (t.edgeCount - 1)) e.kind.toNat]
  | none => []

/-- The newest entry of the bit buffer. -/
def writtenBit (t : State) : List String :=
  match t.bits.getLast? with
  | some b => [written (entryName "BITS" (t.bitCount - 1)) b.toNat]
  | none => []

/-- The state elements that an operation's rule writes, with their values in the state `t` after the edge. -/
def elementsWritten (i : Instr) (t : State) : List String :=
  match i with
  | .reset => writtenAttempt t ++ writtenResults t ++ [written "HOST_VIOL" t.hostViol.toNat]
  | .start => writtenAttempt t
  | .idleHold => []
  | .busyStart => [written "HOST_VIOL" t.hostViol.toNat]
  | .capAbort => writtenFinish t
  | .capSeed => [written "LAST_LEVEL" t.lastLevel.toNat, written "HAVE_LAST" t.haveLast.toNat] ++ writtenTail t
  | .capEdge =>
    writtenEdge t ++ [written "EDGE_COUNT" t.edgeCount, written "LAST_LEVEL" t.lastLevel.toNat] ++ writtenTail t
  | .capSame => writtenTail t
  | .clsPairFall => writtenBit t ++ [written "BIT_COUNT" t.bitCount, written "CLS_IDX" t.clsIdx]
  | .clsPairRise => [written "CLS_IDX" t.clsIdx]
  | .clsEnd => writtenPhase t ++ [written "WIN_OFF" t.winOff]
  | .decInsuf => writtenFinish t
  | .decExhaust => writtenFinish t
  | .decMatch => writtenResults t ++ writtenFinish t
  | .decMismatch => [written "REJECTS" t.rejects, written "WIN_OFF" t.winOff]

/-- The head of a trace line, `<cycle>: <MNEMONIC> [+BUSY_START]` (R84). -/
def traceHead (cycle : Nat) : Selection → String
  | .override => toString cycle ++ ": " ++ Instr.mnemonic .reset
  | .run i side =>
    toString cycle ++ ": " ++ i.mnemonic ++ (if side then " +" ++ Instr.mnemonic .busyStart else "")

/-- The elements that a cycle's operations write. -/
def selectionWritten : Selection → State → List String
  | .override, t => elementsWritten .reset t
  | .run i side, t => elementsWritten i t ++ (if side then elementsWritten .busyStart t else [])

/-- The trace line of the cycle that ran `sel` and led to `t` (R84). -/
def traceLine (cycle : Nat) (sel : Selection) (t : State) : String :=
  String.intercalate " " (traceHead cycle sel :: selectionWritten sel t)

end Sys2Proof.Machine
end

