-- ==== Sys2Proof/Tests/Slice0.lean ====
section
/-! SUPPORT. The model's own tests. Words are written out from the encoding column of R83; the expected results
are those of 95_test_vectors.md, named in each comment. The last part shows, for every statement with
hypotheses, concrete states and operands that meet them. -/

namespace Sys2Proof.Tests

open Sys2Proof.Machine

/-! ### Helpers -/

/-- The parameters of 95_test_vectors.md with a capture window. -/
def vectorParams (captureTicks : Nat) : Params := ⟨1, 35, captureTicks, 83, 32⟩

/-- A small configuration: a window of three polls, two edges, four-bit times. -/
def tinyParams : Params := ⟨1, 35, 2, 2, 4⟩

/-- The state after reset that is presented one input word. -/
def presented (p : Params) (w : InWord) : State := State.resetWith p [w]

/-- `f` of the state after one step, if there is one. -/
def afterStep {α : Type} (s : State) (f : State → α) : Option α := (nextState (step s)).map f

/-- The step of `s` stops with a fault. -/
def faultOf : Result → Option Fault
  | .fault f => some f
  | .next _ => none
  | .refused _ => none

/-- The step of `s` is refused. -/
def refusalOf : Result → Option Refusal
  | .refused r => some r
  | .next _ => none
  | .fault _ => none

/-- A byte sequence as bits, the most significant of each first (R57). -/
def bitsOfBytes (bytes : List Byte) : List Bool :=
  bytes.flatMap fun b => (List.range 8).map fun i => b.getLsbD (7 - i)

/-- What a decoder answered, without its error. -/
def selected (w : SelWord) : Option Selection := (decode w).toOption

/-- The row a word stands for, without the decoder's error. -/
def rowOf (w : SelWord) : Option Instr := (decodeRow w).toOption

/-! ### WellFormed: each check refuses an ill-formed term -/

theorem test_wellFormed_default : (vectorParams 10000).WellFormed := by decide
theorem test_illFormed_ticksPerUs : ¬ (⟨0, 35, 10, 83, 32⟩ : Params).WellFormed := by decide
theorem test_illFormed_maxEdges : ¬ (⟨1, 35, 10, 0, 32⟩ : Params).WellFormed := by decide
/-- R8 at its boundary: with 4-bit times the longest window ends at 14. -/
theorem test_illFormed_window :
    ¬ (⟨1, 35, 15, 83, 4⟩ : Params).WellFormed ∧ (⟨1, 35, 14, 83, 4⟩ : Params).WellFormed := by decide
theorem test_illFormed_reset_as_primary : ¬ (Selection.run .reset false).WellFormed := by
  simp [Selection.WellFormed, Instr.rowClass]
theorem test_illFormed_side_as_primary : ¬ (Selection.run .busyStart false).WellFormed := by
  simp [Selection.WellFormed, Instr.rowClass]
theorem test_illFormed_side_in_idle :
    ¬ (Selection.run .idleHold true).WellFormed ∧ ¬ (Selection.run .start true).WellFormed := by
  simp [Selection.WellFormed, Instr.isIdleRow]
/-- One word against each clause of R80's guards: bit 11 without START, bit 7 without bit 6, bit 10 without bit
9, bit 9 with bit 8. -/
theorem test_unformable_words :
    ¬ SelWord.Formable 0x0800#13 ∧ ¬ SelWord.Formable 0x0080#13 ∧ ¬ SelWord.Formable 0x0400#13 ∧
      ¬ SelWord.Formable 0x0300#13 := by decide

/-! ### Decoding words written out from R83's encoding column -/

theorem test_word_reset : rowOf 0b1000000000000#13 = some .reset := by decide
theorem test_word_start : rowOf 0b0000100100100#13 = some .start := by decide
theorem test_word_idleHold : rowOf 0b0000100101000#13 = some .idleHold := by decide
theorem test_word_busyStart : rowOf 0b0100000000000#13 = some .busyStart := by decide
theorem test_word_capAbort : rowOf 0b0000101111001#13 = some .capAbort := by decide
theorem test_word_capSeed : rowOf 0b0000100100001#13 = some .capSeed := by decide
theorem test_word_capEdge : rowOf 0b0000100110001#13 = some .capEdge := by decide
theorem test_word_capSame : rowOf 0b0000100010001#13 = some .capSame := by decide
theorem test_word_clsPairFall : rowOf 0b0000111010010#13 = some .clsPairFall := by decide
theorem test_word_clsPairRise : rowOf 0b0000101010010#13 = some .clsPairRise := by decide
theorem test_word_clsEnd : rowOf 0b0000100010010#13 = some .clsEnd := by decide
theorem test_word_decInsuf : rowOf 0b0000100010011#13 = some .decInsuf := by decide
theorem test_word_decExhaust : rowOf 0b0000000010011#13 = some .decExhaust := by decide
theorem test_word_decMatch : rowOf 0b0011000010011#13 = some .decMatch := by decide
theorem test_word_decMismatch : rowOf 0b0001000010011#13 = some .decMismatch := by decide

/-- The selectors of P3's cycle 119 and of P6's cycle 5: the side row beside a primary row. -/
theorem test_word_with_side_row :
    selected 0x09D5#13 = some (.run .capSame true) ∧ selected 0x0917#13 = some (.run .decInsuf true) := by decide

/-- The table's words as the host writes them, and as bytes. -/
theorem test_decodeTableWord :
    decodeTableWord 16 0x0124 = some .start ∧ decodeTableWord 16 0x1000 = some .reset ∧
      decodeTableWord 16 0x2000 = none ∧ (decodeBytes [0x24#8]).toOption = none ∧
      Instr.decMatch.encodeBytes = [0x03#8, 0x06#8] := by decide

/-! ### One step of each operation -/

/-- A state right after START, presented one input word. -/
def capturing (captureTicks : Nat) (w : InWord) : State :=
  { presented (vectorParams captureTicks) w with phase := .capture, status := .busy }

/-- R39, C8: from CAPTURE, `rst` leads to the reset state; STATUS is NONE. -/
theorem test_reset :
    afterStep { capturing 300 0x8#4 with edges := [⟨5, true⟩], hostViol := true, resHum := 652#16 } id =
      some { State.resetWith (vectorParams 300) [] with cycle := 1 } := by decide

/-- C1: SEL 0x124, START. -/
theorem test_start :
    (presented (vectorParams 300) 0x5#4).sel = 0x124#13 ∧
      afterStep (presented (vectorParams 300) 0x5#4) (fun t => (t.phase, t.status, t.elapsed, t.haveLast)) =
        some (.capture, .busy, 0, false) := by decide

/-- C9: START keeps the last reading; HOST_VIOL stays too (C7). -/
theorem test_start_keeps_reading :
    afterStep
      { presented (vectorParams 300) 0x5#4 with
        status := .ok, resHum := 652#16, haveReading := true, hostViol := true, bits := [true], rejects := 7 }
      (fun t => (t.status, t.resHum, t.haveReading, t.hostViol, t.bits)) =
      some (.busy, 652#16, true, true, []) := by decide

/-- C4: SEL 0x128, IDLE_HOLD; `line_err` and `line_level` are ignored. -/
theorem test_idleHold :
    (presented (vectorParams 300) 0x3#4).sel = 0x128#13 ∧
      afterStep (presented (vectorParams 300) 0x3#4) (fun t => { t with cycle := 0 }) =
        some (State.resetWith (vectorParams 300) []) := by decide

/-- C5: SEL 0x925, CAP_SEED with BUSY_START. -/
theorem test_busyStart :
    (capturing 300 0x5#4).sel = 0x925#13 ∧
      afterStep (capturing 300 0x5#4) (fun t => (t.lastLevel, t.haveLast, t.elapsed, t.hostViol, t.phase)) =
        some (true, true, 1, true, .capture) := by decide

/-- C6: SEL 0x917, START in the completing cycle is refused. -/
theorem test_busyStart_completing :
    afterStep { presented (vectorParams 300) 0x4#4 with phase := .decode, status := .busy }
      (fun t => (t.phase, t.status, t.hostViol)) = some (.idle, .insufficientData, true) := by decide

/-- K8: the edges and ELAPSED stay. -/
theorem test_capAbort :
    afterStep
      { capturing 300 0x2#4 with
        haveLast := true, elapsed := 100, edges := [⟨5, true⟩, ⟨9, false⟩, ⟨40, true⟩] }
      (fun t => (t.phase, t.status, t.elapsed, t.edgeCount)) = some (.idle, .lineIoFailed, 100, 3) := by decide

/-- K4: an abort at the first poll, SEL 0x109; no sample is taken. -/
theorem test_capAbort_first_poll :
    (capturing 300 0x2#4).sel = 0x109#13 ∧
      afterStep (capturing 300 0x3#4) (fun t => (t.status, t.haveLast, t.lastLevel, t.elapsed)) =
        some (.lineIoFailed, false, false, 0) := by decide

/-- K1: the only poll is also the last. -/
theorem test_capSeed :
    (capturing 0 0x1#4).sel = 0x121#13 ∧
      afterStep (capturing 0 0x1#4) (fun t => (t.lastLevel, t.elapsed, t.phase, t.edgeCount)) =
        some (true, 1, .classify, 0) := by decide

/-- K2. -/
theorem test_capEdge :
    afterStep { capturing 300 0x0#4 with lastLevel := true, haveLast := true, elapsed := 10 }
      (fun t => (t.edges, t.lastLevel, t.elapsed, t.phase)) =
      some ([⟨10, false⟩], false, 11, .capture) := by decide

/-- K5: the edge that fills the buffer ends capture, with MAX_EDGES = 2. -/
theorem test_capEdge_fills :
    afterStep
      { presented ⟨1, 35, 100, 2, 32⟩ 0x1#4 with
        phase := .capture, status := .busy, haveLast := true, elapsed := 5, edges := [⟨3, false⟩], clsIdx := 9 }
      (fun t => (t.edges, t.phase, t.elapsed, t.clsIdx)) =
      some ([⟨3, false⟩, ⟨5, true⟩], .classify, 6, 0) := by decide

/-- K3. -/
theorem test_capSame :
    afterStep { capturing 300 0x0#4 with haveLast := true, elapsed := 11 }
      (fun t => (t.elapsed, t.edges, t.phase)) = some (12, [], .capture) := by decide

/-- P2: the poll at CAPTURE_TICKS ends capture. -/
theorem test_capSame_last :
    afterStep { capturing 4000 0x0#4 with haveLast := true, elapsed := 4000 }
      (fun t => (t.elapsed, t.phase)) = some (4001, .classify) := by decide

/-- A state of the classifier. -/
def classifying (p : Params) (edges : List EdgeEvent) (clsIdx : Nat) : State :=
  { presented p 0x0#4 with phase := .classify, status := .busy, edges := edges, clsIdx := clsIdx }

/-- L1, L2: 35 is 0 and 36 is 1; with two ticks a microsecond 70 is 0 and 71 is 1. -/
theorem test_clsPairFall :
    afterStep (classifying (vectorParams 300) [⟨20, true⟩, ⟨55, false⟩] 0) (fun t => (t.bits, t.clsIdx)) =
        some ([false], 1) ∧
      afterStep (classifying (vectorParams 300) [⟨65, true⟩, ⟨101, false⟩] 0) (fun t => (t.bits, t.clsIdx)) =
        some ([true], 1) := by decide

theorem test_clsPairFall_two_ticks :
    afterStep (classifying ⟨2, 35, 300, 83, 32⟩ [⟨5, true⟩, ⟨75, false⟩] 0) (fun t => t.bits) = some [false] ∧
      afterStep (classifying ⟨2, 35, 300, 83, 32⟩ [⟨80, true⟩, ⟨151, false⟩] 0) (fun t => t.bits) =
        some [true] := by decide

/-- L5. -/
theorem test_clsPairRise :
    afterStep (classifying (vectorParams 300) [⟨3, false⟩, ⟨5, true⟩] 0) (fun t => (t.bits, t.clsIdx, t.phase)) =
      some ([], 1, .classify) := by decide

/-- L3, L4: no pair left at once. -/
theorem test_clsEnd :
    afterStep (classifying (vectorParams 300) [] 0) (fun t => (t.bits, t.phase, t.winOff)) =
        some ([], .decode, 0) ∧
      afterStep (classifying (vectorParams 300) [⟨10, false⟩] 0) (fun t => (t.bits, t.phase)) =
        some ([], .decode) := by decide

/-- A state of the decoder. -/
def decoding (bits : List Bool) (winOff : Nat) : State :=
  { presented (vectorParams 300) 0x0#4 with
    phase := .decode, status := .busy, bits := bits, winOff := winOff, rejects := winOff }

/-- D1: 39 bits. -/
theorem test_decInsuf :
    afterStep (decoding ((bitsOfBytes [0x02#8, 0x8C#8, 0x01#8, 0x5D#8, 0xEC#8]).take 39) 0)
      (fun t => (t.phase, t.status, t.rejects)) = some (.idle, .insufficientData, 0) := by decide

/-- D3: the second cycle of P5's decoder. -/
theorem test_decExhaust :
    afterStep (decoding (bitsOfBytes [0x02#8, 0x8C#8, 0x01#8, 0x5D#8, 0xE6#8]) 1)
      (fun t => (t.phase, t.status, t.rejects)) = some (.idle, .noValidFrame, 1) := by decide

/-- D9 (P2): a negative temperature. -/
theorem test_decMatch_negative :
    afterStep (decoding (bitsOfBytes [0x01#8, 0xF4#8, 0x81#8, 0x5D#8, 0xD3#8]) 0)
      (fun t => (t.resHum, t.resTemp, t.resTsign, t.resFrame, t.attemptResult)) =
      some (500#16, 0xFEA3#16, true, 0x01F4815DD3#40, some ⟨-349, 500⟩) := by decide +kernel

/-- D16 (S9): the window at offset 3. -/
theorem test_decMatch_offset :
    afterStep (decoding ([true, false, true] ++ bitsOfBytes [0x02#8, 0x8C#8, 0x01#8, 0x5D#8, 0xEC#8]) 3)
      (fun t => (t.phase, t.resOff, t.rejects, t.resFrame, t.resTemp)) =
      some (.idle, 3, 3, 0x028C015DEC#40, 349#16) := by decide +kernel

/-- D4: sign flag with magnitude 0. -/
theorem test_window_no_negative_zero :
    temperatureOf 0x0000800080#40 = 0#16 ∧ tempSignOf 0x0000800080#40 = true ∧
      checksumOk 0x0000800080#40 = true := by decide

/-- D3: the source's literal bytes fail. -/
theorem test_decMismatch :
    afterStep (decoding (bitsOfBytes [0x02#8, 0x8C#8, 0x01#8, 0x5D#8, 0xE6#8]) 0)
      (fun t => (t.phase, t.winOff, t.rejects, t.status)) = some (.decode, 1, 1, .busy) := by decide +kernel

/-- D13: window 0 of `1` + S5a. -/
theorem test_decMismatch_shifted :
    windowOf (true :: bitsOfBytes [0x02#8, 0x8C#8, 0x01#8, 0x5D#8, 0xEC#8]) 0 = 0x814600AEF6#40 ∧
      afterStep (decoding (true :: bitsOfBytes [0x02#8, 0x8C#8, 0x01#8, 0x5D#8, 0xEC#8]) 0)
        (fun t => (t.winOff, t.rejects)) = some (1, 1) := by decide +kernel

/-- R86: `BIT1` is 50 low and 70 high, and `FRAME` is forty bits. -/
theorem test_script :
    (expandScript [.rst, .goLow, .bit true]).length = 122 ∧ expandScript [.go, .hi 2, .err] =
      [0x5#4, 0x1#4, 0x1#4, 0x2#4] := by decide

/-- R84: the form of its example's elements, and a whole line. -/
theorem test_trace :
    writtenEdge { State.reset with edges := [⟨3, true⟩, ⟨7, false⟩, ⟨10, false⟩] } =
        ["EDGE_TS[2]=10", "EDGE_KIND[2]=0"] ∧
      traceLine 6 (.run .clsPairRise true) { State.reset with clsIdx := 4, hostViol := true } =
        "6: CLS_PAIR_RISE +BUSY_START CLS_IDX=4 HOST_VIOL=1" := by decide +kernel

/-- R191: the codes that the rows of the taxonomy end an attempt with. -/
theorem test_outcome_codes :
    Event.noValidFrame.status.map Status.code = some 0b101#3 ∧ Event.success.status.map Status.code = some 0b010#3 ∧
      Event.lineIoFailed.raisedBy = some .capAbort := by decide

/-- The state that withFetchWord arranges runs the word's row (log 9). -/
theorem test_withFetchWord :
    (State.reset.withFetchWord 16 0x0C2).row = .clsPairFall ∧ (State.reset.withFetchWord 16 0x603).row = .decMatch ∧
      afterStep (State.reset.withFetchWord 16 0x800) (fun t => t.hostViol) = some true := by decide

/-! ### The hypotheses of the statements can be met -/

/-- Property of each two neighbours, from a chain. -/
theorem neighbours_of_isChain {R : EdgeEvent → EdgeEvent → Prop} {l : List EdgeEvent} (h : l.IsChain R) :
    ∀ i a b, l[i]? = some a → l[i + 1]? = some b → R a b := by
  intro i a b ha hb
  obtain ⟨hi, rfl⟩ := List.getElem?_eq_some_iff.mp hb
  obtain ⟨_, rfl⟩ := List.getElem?_eq_some_iff.mp ha
  exact List.isChain_iff_getElem.mp h i hi

/-- A step that answers a next state. -/
theorem exists_next {r : Result} (h : (nextState r).isSome = true) : ∃ t, r = .next t := by
  cases r
  · exact ⟨_, rfl⟩
  · cases h
  · cases h

/-- The state right after START, of the small configuration: the line is sampled low, high, high. -/
def tinyCapture : State :=
  { State.resetWith tinyParams [0x0#4, 0x1#4, 0x1#4, 0x0#4, 0x0#4, 0x0#4] with phase := .capture, status := .busy }

/-- A capture that found one pulse. -/
def tinyClassify : State :=
  { State.resetWith tinyParams [0x0#4, 0x0#4, 0x0#4] with
    phase := .classify, status := .busy, elapsed := 3, haveLast := true,
    edges := [⟨1, true⟩, ⟨2, false⟩] }

/-- A classification that found no bit. -/
def tinyDecode : State :=
  { State.resetWith tinyParams [0x0#4, 0x0#4] with
    phase := .decode, status := .busy, elapsed := 3, haveLast := true }

/-- Forty pulses of one tick each. -/
def fortyPulses : List EdgeEvent := (List.range 80).map fun i => ⟨i + 1, i % 2 == 0⟩

/-- A decoder of forty bits at an offset. -/
def fortyBits (bits : List Bool) (winOff : Nat) : State :=
  { State.resetWith (vectorParams 100) [0x0#4, 0x0#4, 0x0#4] with
    phase := .decode, status := .busy, elapsed := 101, haveLast := true, edges := fortyPulses, clsIdx := 79,
    bits := bits, winOff := winOff, rejects := winOff }

/-- Thirty-nine zeros and a one: the only window fails its checksum. -/
def oneLastBit : List Bool := List.replicate 39 false ++ [true]

theorem attemptInv_tinyCapture : AttemptInv tinyCapture := by
  constructor <;> simp [tinyCapture, State.resetWith, tinyParams, Status.isReserved, State.edgeCount,
    State.bitCount, bitCap]
  decide

theorem attemptInv_tinyDecode : AttemptInv tinyDecode := by
  constructor <;> simp [tinyDecode, State.resetWith, tinyParams, Status.isReserved, State.edgeCount,
    State.bitCount, bitCap]
  decide

theorem attemptInv_tinyClassify : AttemptInv tinyClassify where
  timesRise := neighbours_of_isChain (R := fun a b => a.ts < b.ts) (by decide)
  kindsAlternate := neighbours_of_isChain (R := fun a b => b.kind = !a.kind) (by decide)
  lastIsLevel := by simp [tinyClassify, State.resetWith]
  config := by decide
  statusLegal := rfl
  busyWhileRunning := by simp [tinyClassify]
  edgesFit := by decide
  bitsFit := by decide
  timesPast := by simp [tinyClassify]
  noEdgeUnseeded := by simp [tinyClassify]
  elapsedBound := by decide
  captureOpen := by simp [tinyClassify]
  seedAtZero := by simp [tinyClassify]
  noBitsInCapture := by simp [tinyClassify]
  pairIndexBound := by decide
  bitsCountFalls := fun _ => by decide
  bitsHalfEdges := by decide
  rejectsAreOffset := rfl
  noWindowYet := fun _ => rfl
  offsetBound := by decide
  okHasReading := by simp [tinyClassify]
  noReadingZero := fun _ => ⟨rfl, rfl, rfl, rfl, rfl⟩
  resultOffsetBound := by simp [tinyClassify, State.resetWith]

theorem attemptInv_fortyBits {bits : List Bool} {winOff : Nat} (h : bits.length = 40) (h' : winOff ≤ 1) :
    AttemptInv (fortyBits bits winOff) where
  timesRise := neighbours_of_isChain (R := fun a b => a.ts < b.ts) (l := fortyPulses) (by decide +kernel)
  kindsAlternate := neighbours_of_isChain (R := fun a b => b.kind = !a.kind) (l := fortyPulses) (by decide +kernel)
  lastIsLevel := fun _ => by
    have : ∀ e ∈ fortyPulses.getLast?, false = e.kind := by decide +kernel
    exact this
  config := by show (vectorParams 100).WellFormed; decide
  statusLegal := rfl
  busyWhileRunning := by simp [fortyBits]
  edgesFit := by show fortyPulses.length ≤ 83; decide
  bitsFit := by
    refine ⟨?_, by show fortyPulses.length - 1 ≤ 82; decide⟩
    show bits.length ≤ fortyPulses.length - 1
    rw [h]
    decide
  timesPast := by
    show ∀ e ∈ fortyPulses, e.ts < 101
    decide +kernel
  noEdgeUnseeded := by simp [fortyBits]
  elapsedBound := Nat.le_refl 101
  captureOpen := by simp [fortyBits]
  seedAtZero := by simp [fortyBits]
  noBitsInCapture := by simp [fortyBits]
  pairIndexBound := by show 79 ≤ fortyPulses.length - 1; decide
  bitsCountFalls := by simp [fortyBits]
  bitsHalfEdges := by
    show bits.length ≤ fortyPulses.length / 2
    rw [h]
    decide
  rejectsAreOffset := rfl
  noWindowYet := by simp [fortyBits]
  offsetBound := by
    show winOff ≤ bits.length - 39
    omega
  okHasReading := by simp [fortyBits]
  noReadingZero := fun _ => ⟨rfl, rfl, rfl, rfl, rfl⟩
  resultOffsetBound := by simp [fortyBits, State.resetWith]

theorem witness_BusyStartOnlyMarksTheViolation :
    tinyCapture.phase ≠ .idle ∧ (Pins.ofWord 0x1#4).rst = false ∧ (Pins.ofWord 0x1#4).start = false ∧
      Pins.ofWord 0x5#4 = { Pins.ofWord 0x1#4 with start := true } := by decide

/-- Both branches: the only poll, and the first of several. The last time that fits in four bits. -/
theorem witness_CapSeedTakesTheLevel :
    (capturing 0 0x1#4).elapsed + 1 < 2 ^ (capturing 0 0x1#4).params.tsW ∧
      (capturing 0 0x1#4).elapsed = (capturing 0 0x1#4).params.captureTicks ∧
      tinyCapture.elapsed ≠ tinyCapture.params.captureTicks ∧
      ({ tinyCapture with elapsed := 14 }).elapsed + 1 < 2 ^ tinyCapture.params.tsW := by decide

/-- Room for one edge and for two, and none. -/
theorem witness_CapEdgeAppendsTheEdge :
    (tinyCapture.edgeCount < tinyCapture.params.maxEdges ∧ tinyCapture.elapsed + 1 < 2 ^ tinyCapture.params.tsW) ∧
      ({ tinyCapture with edges := [⟨1, true⟩] }).edgeCount + 1 = tinyCapture.params.maxEdges ∧
      tinyClassify.params.maxEdges ≤ tinyClassify.edgeCount := by decide

theorem witness_CapSameOnlyAdvancesTime :
    tinyCapture.elapsed + 1 < 2 ^ tinyCapture.params.tsW ∧
      ({ tinyCapture with elapsed := 2 }).elapsed = tinyCapture.params.captureTicks ∧
      ({ tinyCapture with elapsed := 2 }).elapsed + 1 < 2 ^ tinyCapture.params.tsW := by decide

theorem witness_ClsPairFallAppendsTheBit :
    tinyClassify.edges[tinyClassify.clsIdx]? = some ⟨1, true⟩ ∧
      tinyClassify.edges[tinyClassify.clsIdx + 1]? = some ⟨2, false⟩ ∧
      tinyClassify.bitCount < tinyClassify.params.maxEdges - 1 ∧
      tinyClassify.clsIdx + 1 < 2 ^ countWidth tinyClassify.params := by decide

/-- No pair left, and the bit buffer exactly full. -/
theorem witness_ClsPairFallFaultsWithoutItsOperands :
    ({ tinyClassify with clsIdx := 1 }).edgeCount ≤ ({ tinyClassify with clsIdx := 1 }).clsIdx + 1 ∧
      ({ tinyClassify with bits := [true] }).clsIdx + 1 < ({ tinyClassify with bits := [true] }).edgeCount ∧
      ({ tinyClassify with bits := [true] }).params.maxEdges - 1 ≤ ({ tinyClassify with bits := [true] }).bitCount ∧
      faultOf (exec .clsPairFall { tinyClassify with bits := [true] }) = some .bitBufferFull := by decide

theorem witness_ClsPairRiseYieldsNothing :
    tinyClassify.clsIdx + 1 < 2 ^ countWidth tinyClassify.params ∧
      ({ tinyClassify with clsIdx := 2 }).clsIdx + 1 < 2 ^ countWidth tinyClassify.params := by decide

theorem witness_DecExhaustEndsTheAttempt :
    AttemptInv (fortyBits oneLastBit 1) ∧ selected (fortyBits oneLastBit 1).sel = some (.run .decExhaust false) :=
  ⟨attemptInv_fortyBits (by decide) (by decide), by decide +kernel⟩

/-- The last window that is available, and the first that is not. -/
theorem witness_DecMatchStoresTheReading :
    (fortyBits oneLastBit 0).winOff + 40 ≤ (fortyBits oneLastBit 0).bitCount ∧
      (fortyBits oneLastBit 1).bitCount < (fortyBits oneLastBit 1).winOff + 40 := by decide

theorem witness_DecMismatchAdvancesOneBit :
    ((fortyBits oneLastBit 0).winOff + 40 ≤ (fortyBits oneLastBit 0).bitCount ∧
      (fortyBits oneLastBit 0).winOff + 1 < 2 ^ countWidth (fortyBits oneLastBit 0).params ∧
      (fortyBits oneLastBit 0).rejects + 1 < 2 ^ countWidth (fortyBits oneLastBit 0).params) ∧
      (fortyBits oneLastBit 1).bitCount < (fortyBits oneLastBit 1).winOff + 40 := by decide

/-- A state in each clause of IDLE and CAPTURE, and one that resets. -/
theorem witness_SelectorSplitsEveryPhase_sampling :
    (tinyCapture.presenting 0x8#4).pins.rst = true ∧
      (State.reset.presenting 0x4#4).phase = .idle ∧ (State.reset.presenting 0x4#4).pins.start = true ∧
      (State.reset.presenting 0x0#4).pins.start = false ∧
      tinyCapture.phase = .capture ∧ (tinyCapture.presenting 0x2#4).pins.lineErr = true ∧
      tinyCapture.pins.lineErr = false ∧ tinyCapture.haveLast = false ∧
      ({ tinyCapture with haveLast := true }.presenting 0x1#4).pins.lineLevel ≠ tinyCapture.lastLevel ∧
      ({ tinyCapture with haveLast := true }.presenting 0x0#4).pins.lineLevel = tinyCapture.lastLevel := by decide

/-- A state in each clause of CLASSIFY and DECODE: counts at the clauses' boundaries. -/
theorem witness_SelectorSplitsEveryPhase_computing :
    ({ tinyClassify with clsIdx := 1 }).edgeCount ≤ ({ tinyClassify with clsIdx := 1 }).clsIdx + 1 ∧
      tinyClassify.edges[tinyClassify.clsIdx + 1]? = some ⟨2, false⟩ ∧
      (classifying tinyParams [⟨1, false⟩, ⟨2, true⟩] 0).edges[0 + 1]? = some ⟨2, true⟩ ∧
      (fortyBits (oneLastBit.drop 1) 0).bitCount < 40 ∧
      (40 ≤ (fortyBits oneLastBit 1).bitCount ∧ (fortyBits oneLastBit 1).bitCount < 1 + 40) ∧
      0 + 40 ≤ (fortyBits oneLastBit 0).bitCount ∧
      checksumOk (windowOf (fortyBits (List.replicate 40 false) 0).bits 0) = true ∧
      checksumOk (windowOf (fortyBits oneLastBit 0).bits 0) = false := by decide

theorem witness_EverySelectorMatchesOneRow :
    (0x1000#13).getLsbD 12 = true ∧ Instr.reset.applies 0x1000#13 = true ∧ (0x0FFF#13).getLsbD 12 = false ∧
      Instr.decInsuf.rowClass = .primary ∧ Instr.decInsuf.applies 0x0FFF#13 = true := by decide

theorem witness_DecodeReadsBackEveryRow :
    (Selection.run .decMatch true).WellFormed ∧ Selection.override.WellFormed ∧
      Instr.decMatch.rowClass = .primary := by
  simp [Selection.WellFormed, Instr.rowClass, Instr.isIdleRow]

/-- P6's completing cycle, and a cycle with every condition of a matching window. -/
theorem witness_FormedSelectorsDecodeWellFormed :
    SelWord.Formable 0x0917#13 ∧ SelWord.Formable 0x0613#13 := by decide

theorem witness_StepRunsTheDecodedOperations :
    tinyCapture.params.WellFormed ∧ selected (tinyCapture.presenting 0x8#4).sel = some .override ∧
      tinyCapture.status.isReserved = false ∧ selected tinyCapture.sel = some (.run .capSeed false) ∧
      selected (tinyCapture.presenting 0x5#4).sel = some (.run .capSeed true) := by decide

theorem witness_ResetOverridesEverything :
    ({ tinyCapture with status := .reserved7 }.presenting 0xF#4).params.WellFormed ∧
      ({ tinyCapture with status := .reserved7 }.presenting 0xF#4).pins.rst = true := by decide

/-- Each of the three constraints broken alone, at its boundary. -/
theorem witness_IllegalConfigurationIsRefused :
    ({ tinyCapture with params := ⟨0, 35, 2, 2, 4⟩ }).params.ticksPerUs = 0 ∧
      ({ tinyCapture with params := ⟨1, 35, 2, 0, 4⟩ }).params.maxEdges = 0 ∧
      2 ^ ({ tinyCapture with params := ⟨1, 35, 15, 2, 4⟩ }).params.tsW - 1 <
        ({ tinyCapture with params := ⟨1, 35, 15, 2, 4⟩ }).params.captureTicks + 1 ∧
      refusalOf (step { tinyCapture with params := ⟨1, 35, 15, 2, 4⟩ }) = some .badConfiguration := by decide

theorem witness_ReservedStatusFaults :
    tinyCapture.params.WellFormed ∧ tinyCapture.pins.rst = false ∧
      faultOf (step { tinyCapture with status := .reserved6 }) = some .reservedStatus ∧
      faultOf (step { tinyCapture with status := .reserved7 }) = some .reservedStatus := by decide

theorem witness_ResetKeepsTheInvariants : tinyParams.WellFormed ∧ (vectorParams 10000).WellFormed := by decide

theorem witness_StepKeepsAttemptInv :
    (AttemptInv tinyCapture ∧ ∃ t, step tinyCapture = .next t) ∧
      (AttemptInv tinyClassify ∧ ∃ t, step tinyClassify = .next t) ∧
      (AttemptInv tinyDecode ∧ ∃ t, step tinyDecode = .next t) :=
  ⟨⟨attemptInv_tinyCapture, exists_next (by decide)⟩, ⟨attemptInv_tinyClassify, exists_next (by decide)⟩,
    attemptInv_tinyDecode, exists_next (by decide)⟩

theorem witness_InvariantStatesNeverStop : AttemptInv (fortyBits oneLastBit 0) ∧ AttemptInv tinyClassify :=
  ⟨attemptInv_fortyBits (by decide) (by decide), attemptInv_tinyClassify⟩

theorem witness_StepKeepsRegisterWidths : RegistersFit tinyClassify ∧ ∃ t, step tinyClassify = .next t :=
  ⟨⟨by decide, by decide, by decide, by decide, by decide, by decide, by decide, by decide⟩,
    exists_next (by decide)⟩

theorem witness_StepKeepsStageInv :
    AttemptInv tinyClassify ∧ StageInv tinyClassify ∧ ∃ t, step tinyClassify = .next t :=
  ⟨attemptInv_tinyClassify, by constructor <;> simp [tinyClassify, State.resetWith, bitsOfEdges],
    exists_next (by decide)⟩

/-- A decoder whose first window matches. -/
theorem witness_StepKeepsStageInv_decode :
    ∃ bits, AttemptInv (fortyBits bits 0) ∧ StageInv (fortyBits bits 0) ∧ ∃ t, step (fortyBits bits 0) = .next t :=
  ⟨List.replicate 40 false, attemptInv_fortyBits (by decide) (by decide),
    { classifying := by simp [fortyBits]
      classified := fun _ => by show List.replicate 40 false = bitsOfEdges (vectorParams 100) fortyPulses; decide
      rejected := fun _ k hk => absurd hk (Nat.not_lt_zero k)
      readingWhole := by simp [fortyBits, State.resetWith]
      okIsDecoded := by simp [fortyBits]
      insufficientIsDecoded := by simp [fortyBits]
      noFrameIsDecoded := by simp [fortyBits] },
    exists_next (by decide +kernel)⟩

/-- Steps from a reachable state lead to reachable states. -/
theorem reachable_of_steps {n : Nat} {s t : State} (h : Reachable s) (run : nextState (steps n s) = some t) :
    Reachable t := by
  induction n generalizing s with
  | zero => cases run; exact h
  | succ n ih =>
    simp only [steps] at run
    cases hs : step s with
    | next u => rw [hs] at run; exact ih (.afterStep s u h hs) run
    | fault e => rw [hs] at run; cases run
    | refused e => rw [hs] at run; cases run

/-- A small attempt reaches CLASSIFY with two edges, and then DECODE and IDLE without a reading. -/
theorem witness_ReachableStatesSatisfyTheNineInvariants :
    (∃ t, Reachable t ∧ t.phase = .classify ∧ t.edges = [⟨1, true⟩, ⟨2, false⟩] ∧ t.haveLast = true) ∧
      ∃ t, Reachable t ∧ t.phase = .decode ∧ t.bits = [false] ∧ t.haveReading = false :=
  have start := Reachable.atReset tinyParams [0x4#4, 0x0#4, 0x1#4, 0x0#4, 0x0#4, 0x0#4] (by decide)
  ⟨⟨_, reachable_of_steps (n := 4) start rfl, rfl, rfl, rfl⟩,
    ⟨_, reachable_of_steps (n := 6) start rfl, rfl, rfl, rfl⟩⟩

theorem witness_NoStepWritesAParameter : ∃ t, step tinyCapture = .next t := exists_next (by decide)

theorem witness_OnlyAMatchWritesTheResults :
    (∃ t, step (fortyBits (List.replicate 40 false) 0) = .next t) ∧
      (fortyBits (List.replicate 40 false) 0).pins.rst = false :=
  ⟨exists_next (by decide +kernel), by decide +kernel⟩

/-- A state without a reading that gets one, and one with a reading and a violation. -/
theorem witness_StickyFlagsClearOnlyOnReset :
    (afterStep (fortyBits (List.replicate 40 false) 0) (·.haveReading) = some true ∧
      (fortyBits (List.replicate 40 false) 0).haveReading = false ∧
      (fortyBits (List.replicate 40 false) 0).pins.rst = false) ∧
      ({ tinyCapture with haveReading := true }).haveReading = true ∧
      afterStep { tinyCapture with haveReading := true } (·.haveReading) = some true ∧
      tinyCapture.pins.rst = false := by decide +kernel

theorem witness_RecordedEdgesAreImmutable :
    (∃ t, step ({ tinyCapture with haveLast := true }.presenting 0x1#4) = .next t) ∧
      ({ tinyCapture with haveLast := true }.presenting 0x1#4).pins.rst = false :=
  ⟨exists_next (by decide), rfl⟩

theorem witness_ClassifiedBitsAreImmutable :
    (∃ t, step tinyClassify = .next t) ∧ tinyClassify.pins.rst = false := ⟨exists_next (by decide), rfl⟩

/-- Each of the four cases. -/
theorem witness_TimeRunsOnlyInCapture :
    ((∃ t, step tinyClassify = .next t) ∧ tinyClassify.pins.rst = false ∧ tinyClassify.phase = .classify) ∧
      ((∃ t, step tinyDecode = .next t) ∧ tinyDecode.pins.rst = false ∧ tinyDecode.phase = .decode) ∧
      ((∃ t, step (State.reset.presenting 0x0#4) = .next t) ∧ (State.reset.presenting 0x0#4).pins.rst = false ∧
        State.reset.phase = .idle ∧ (State.reset.presenting 0x0#4).pins.start = false) ∧
      ((∃ t, step (tinyCapture.presenting 0x2#4) = .next t) ∧ (tinyCapture.presenting 0x2#4).pins.rst = false ∧
        tinyCapture.phase = .capture ∧ (tinyCapture.presenting 0x2#4).pins.lineErr = true) :=
  ⟨⟨exists_next (by decide), rfl, rfl⟩, ⟨exists_next (by decide), rfl, rfl⟩,
    ⟨exists_next (by decide), rfl, rfl, rfl⟩, exists_next (by decide), rfl, rfl, rfl⟩

/-- A state of each phase. -/
theorem witness_PhasesMoveOnlyForward :
    ((∃ t, step (State.reset.presenting 0x4#4) = .next t) ∧ State.reset.phase = .idle) ∧
      ((∃ t, step tinyCapture = .next t) ∧ tinyCapture.phase = .capture) ∧
      ((∃ t, step tinyClassify = .next t) ∧ tinyClassify.phase = .classify) ∧
      ((∃ t, step tinyDecode = .next t) ∧ tinyDecode.phase = .decode) ∧
      (State.reset.presenting 0x4#4).pins.rst = false ∧ tinyCapture.pins.rst = false ∧
      tinyClassify.pins.rst = false ∧ tinyDecode.pins.rst = false :=
  ⟨⟨exists_next (by decide), rfl⟩, ⟨exists_next (by decide), rfl⟩, ⟨exists_next (by decide), rfl⟩,
    ⟨exists_next (by decide), rfl⟩, rfl, rfl, rfl, rfl⟩

theorem witness_LineInputsMatterOnlyInCapture :
    tinyClassify.phase ≠ .capture ∧ (Pins.ofWord 0x4#4).rst = (Pins.ofWord 0x7#4).rst ∧
      (Pins.ofWord 0x4#4).start = (Pins.ofWord 0x7#4).start := by decide

theorem witness_CaptureComputesTheEdgeSequence :
    AttemptInv tinyCapture ∧ tinyCapture.phase = .capture ∧ tinyCapture.haveLast = false ∧
      NoResetFor tinyCapture (lastPoll tinyCapture.params (sampledLevel tinyCapture) + 1) ∧
      NoReadFailureFor tinyCapture (lastPoll tinyCapture.params (sampledLevel tinyCapture) + 1) :=
  ⟨attemptInv_tinyCapture, rfl, rfl, by unfold NoResetFor; decide, by unfold NoReadFailureFor; decide⟩

theorem witness_ReadFailureEndsTheCaptureAtOnce :
    AttemptInv (tinyCapture.presenting 0x2#4) ∧ (tinyCapture.presenting 0x2#4).phase = .capture ∧
      (tinyCapture.presenting 0x2#4).pins.rst = false ∧ (tinyCapture.presenting 0x2#4).pins.lineErr = true := by
  refine ⟨?_, rfl, rfl, rfl⟩
  have h := attemptInv_tinyCapture
  exact { h with }

theorem witness_ClassifyComputesTheBitSequence :
    AttemptInv tinyClassify ∧ tinyClassify.phase = .classify ∧ tinyClassify.clsIdx = 0 ∧
      NoResetFor tinyClassify (max (tinyClassify.edgeCount - 1) 0 + 1) :=
  ⟨attemptInv_tinyClassify, rfl, rfl, by unfold NoResetFor; decide⟩

/-- Too few bits; a window that matches at once; and one that fails, with none left. -/
theorem witness_DecodeComputesTheFirstValidFrame :
    (AttemptInv tinyDecode ∧ tinyDecode.phase = .decode ∧ tinyDecode.winOff = 0 ∧
      NoResetFor tinyDecode (decodeCycles tinyDecode.bits)) ∧
      (AttemptInv (fortyBits (List.replicate 40 false) 0) ∧
        NoResetFor (fortyBits (List.replicate 40 false) 0) (decodeCycles (List.replicate 40 false))) ∧
      (AttemptInv (fortyBits oneLastBit 0) ∧ NoResetFor (fortyBits oneLastBit 0) (decodeCycles oneLastBit)) := by
  refine ⟨⟨attemptInv_tinyDecode, rfl, rfl, ?_⟩, ⟨attemptInv_fortyBits (by decide) (by decide), ?_⟩,
    attemptInv_fortyBits (by decide) (by decide), ?_⟩ <;> unfold NoResetFor <;> decide +kernel

theorem witness_EveryAttemptEndsWithinItsBound :
    AttemptInv tinyCapture ∧
      NoResetFor tinyCapture ((tinyCapture.params.captureTicks + 1) + (tinyCapture.params.maxEdges - 1 + 1) +
        (bitCap tinyCapture.params - 39 + 1)) :=
  ⟨attemptInv_tinyCapture, by unfold NoResetFor; decide⟩

/-- An attempt of the small configuration whose START is followed by three given words. -/
def tinyAttempt (a b c : InWord) : State := State.resetWith tinyParams [0x4#4, a, b, c, 0x0#4, 0x0#4, 0x0#4, 0x0#4]

theorem attemptInv_tinyAttempt (a b c : InWord) : AttemptInv (tinyAttempt a b c) := by
  constructor <;> simp [tinyAttempt, State.resetWith, tinyParams, Status.isReserved, State.edgeCount,
    State.bitCount, bitCap]
  decide

theorem acceptsStart_tinyAttempt (a b c : InWord) : AcceptsStart (tinyAttempt a b c) where
  idle := rfl
  noReset := by simp [tinyAttempt, State.resetWith, State.pins, State.inputAt, Pins.ofWord]
  start := by simp [tinyAttempt, State.resetWith, State.pins, State.inputAt, Pins.ofWord]

/-- An attempt that samples low, high, low, from its START on. -/
theorem witness_AnAttemptDecodesTheSampledLevels :
    AttemptInv (tinyAttempt 0x0#4 0x1#4 0x0#4) ∧ (tinyAttempt 0x0#4 0x1#4 0x0#4).phase = .idle ∧
      (tinyAttempt 0x0#4 0x1#4 0x0#4).pins.start = true ∧
      NoResetFor (tinyAttempt 0x0#4 0x1#4 0x0#4)
        (attemptCycles tinyParams fun k => sampledLevel (tinyAttempt 0x0#4 0x1#4 0x0#4) (k + 1)) ∧
      NoReadFailureFor (tinyAttempt 0x0#4 0x1#4 0x0#4).advance
        (lastPoll tinyParams (fun k => sampledLevel (tinyAttempt 0x0#4 0x1#4 0x0#4) (k + 1)) + 1) :=
  ⟨attemptInv_tinyAttempt _ _ _, rfl, (acceptsStart_tinyAttempt _ _ _).start, by unfold NoResetFor; decide,
    by unfold NoReadFailureFor; decide⟩

theorem witness_BitCountBounds :
    (∀ i a b, tinyClassify.edges[i]? = some a → tinyClassify.edges[i + 1]? = some b → b.kind = !a.kind) ∧
      ([⟨10, false⟩] : List EdgeEvent).length < 2 :=
  ⟨attemptInv_tinyClassify.kindsAlternate, by decide⟩

/-- The last free entry, and none, of each buffer. -/
theorem witness_BufferPrimitivesKeepToTheirEntry :
    (({ tinyCapture with edges := [⟨1, true⟩] }).edgeCount < tinyCapture.params.maxEdges ∧
      15 < 2 ^ tinyCapture.params.tsW) ∧
      tinyClassify.params.maxEdges ≤ tinyClassify.edgeCount ∧ tinyClassify.edgeCount ≤ 2 ∧
      tinyClassify.bitCount < bitCap tinyClassify.params ∧
      bitCap tinyClassify.params ≤ ({ tinyClassify with bits := [true] }).bitCount ∧
      tinyClassify.bitCount ≤ 0 := by decide

theorem witness_WindowsAreBigEndian : 0 + 40 ≤ (fortyBits oneLastBit 0).bitCount := by decide

/-- S7: S5a with byte 1 changed; D12: S5a with one up in byte 0 and one down in byte 1. -/
theorem witness_SingleByteCorruptionIsDetected :
    checksumOk 0x028C015DEC#40 = true ∧ frameByte 0x028D015DEC#40 1 ≠ frameByte 0x028C015DEC#40 1 ∧
      (∀ i, i < 5 → i ≠ 1 → frameByte 0x028D015DEC#40 i = frameByte 0x028C015DEC#40 i) ∧
      frameByte 0x038B015DEC#40 0 = frameByte 0x028C015DEC#40 0 + 1#8 ∧
      frameByte 0x038B015DEC#40 1 = frameByte 0x028C015DEC#40 1 - 1#8 ∧
      ∀ i, i < 5 → 2 ≤ i → frameByte 0x038B015DEC#40 i = frameByte 0x028C015DEC#40 i := by decide

theorem witness_AllZeroWindowIsAccepted :
    40 ≤ (List.replicate 40 false).length ∧ ∀ j, j < 40 → (List.replicate 40 false)[j]? = some false := by decide

theorem witness_PulsesAboveTheThresholdAreOne : (⟨2, 35, 300, 83, 32⟩ : Params).WellFormed := by decide

/-- Two different indices: the last valid one of each buffer, and each buffer's count itself. -/
theorem witness_InspectionShowsValidEntries :
    (79 < 2 ^ countWidth (fortyBits oneLastBit 0).params ∧ 39 < 2 ^ countWidth (fortyBits oneLastBit 0).params ∧
      (fortyBits oneLastBit 0).edges[79]? = some ⟨80, false⟩ ∧ (fortyBits oneLastBit 0).bits[39]? = some true) ∧
      80 < 2 ^ countWidth (fortyBits oneLastBit 0).params ∧ 40 < 2 ^ countWidth (fortyBits oneLastBit 0).params ∧
      (fortyBits oneLastBit 0).edgeCount = 80 ∧ (fortyBits oneLastBit 0).bitCount = 40 := by
  decide +kernel

/-- R79 at the boundary: with 80 edges and 40 bits, edge index 40 is valid and bit index 40 is not. -/
theorem test_inspection_indices :
    ((fortyBits oneLastBit 0).outputs 40 40).dbgEdgeValid = true ∧
      ((fortyBits oneLastBit 0).outputs 40 40).dbgBitValid = false ∧
      ((fortyBits oneLastBit 0).outputs 80 39).dbgEdgeValid = false ∧
      ((fortyBits oneLastBit 0).outputs 80 39).dbgBit = true := by decide +kernel

theorem witness_AttemptResultIsTheReading :
    ({ State.reset with status := .ok }).status = .ok ∧ State.reset.status ≠ .ok := by decide

/-- An attempt that ends, with its end state, which only one number of steps leads to. -/
theorem witness_EveryAcceptedStartHasOneEndState :
    (AttemptInv (tinyAttempt 0x0#4 0x1#4 0x0#4) ∧ AcceptsStart (tinyAttempt 0x0#4 0x1#4 0x0#4) ∧
      NoResetFor (tinyAttempt 0x0#4 0x1#4 0x0#4) (attemptBound tinyParams)) ∧
      ∃ t, EndsAttempt (tinyAttempt 0x0#4 0x1#4 0x0#4) 7 t ∧
        AttemptShows (tinyAttempt 0x0#4 0x1#4 0x0#4) t.observation := by
  have ends : EndsAttempt (tinyAttempt 0x0#4 0x1#4 0x0#4) 7 _ :=
    { accepted := acceptsStart_tinyAttempt _ _ _
      noReset := by unfold NoResetFor; decide
      afterStart := by decide
      run := rfl
      idle := rfl
      first := by
        intro k low high
        interval_cases k <;> exact ⟨_, rfl, by decide⟩ }
  exact ⟨⟨attemptInv_tinyAttempt _ _ _, acceptsStart_tinyAttempt _ _ _, by unfold NoResetFor; decide⟩,
    _, ends, 7, _, ends, rfl⟩

/-- A read failure at the first poll, and one at the last poll that the capture comes to. -/
theorem witness_EveryAcceptedStartHasOneEndState_read_failure :
    (AttemptInv (tinyAttempt 0x2#4 0x0#4 0x0#4) ∧ AcceptsStart (tinyAttempt 0x2#4 0x0#4 0x0#4) ∧
      (0 ≤ lastPoll tinyParams fun j => sampledLevel (tinyAttempt 0x2#4 0x0#4 0x0#4) (j + 1)) ∧
      NoResetFor (tinyAttempt 0x2#4 0x0#4 0x0#4) 2 ∧ NoReadFailureFor (tinyAttempt 0x2#4 0x0#4 0x0#4).advance 0 ∧
      (Pins.ofWord ((tinyAttempt 0x2#4 0x0#4 0x0#4).inputAt 1)).lineErr = true) ∧
      AttemptInv (tinyAttempt 0x0#4 0x1#4 0x2#4) ∧ AcceptsStart (tinyAttempt 0x0#4 0x1#4 0x2#4) ∧
      (2 ≤ lastPoll tinyParams fun j => sampledLevel (tinyAttempt 0x0#4 0x1#4 0x2#4) (j + 1)) ∧
      NoResetFor (tinyAttempt 0x0#4 0x1#4 0x2#4) 4 ∧ NoReadFailureFor (tinyAttempt 0x0#4 0x1#4 0x2#4).advance 2 ∧
      (Pins.ofWord ((tinyAttempt 0x0#4 0x1#4 0x2#4).inputAt 3)).lineErr = true := by
  refine ⟨⟨attemptInv_tinyAttempt _ _ _, acceptsStart_tinyAttempt _ _ _, ?_⟩, attemptInv_tinyAttempt _ _ _,
    acceptsStart_tinyAttempt _ _ _, ?_⟩ <;> unfold NoResetFor NoReadFailureFor <;> decide

/-- R106: no attempt ends without an accepted START. -/
theorem test_no_start_no_end (n : Nat) (t : State) : ¬ EndsAttempt (presented tinyParams 0x0#4) n t := by
  intro ends
  have start := ends.accepted.start
  cases start

end Sys2Proof.Tests
end

section
/-! What a next state of each operation with a branch is, and the rule that a property which every named update keeps
is kept by every step (R105). -/

namespace Sys2Proof.Machine

/-! ### What the operations that can fault answer -/

/-- CAP_EDGE answers a next state exactly where the edge buffer has room (R52, R124). -/
theorem exec_capEdge_eq_next {s t : State} :
    exec .capEdge s = .next t ↔
      s.edgeCount < s.params.maxEdges ∧
        t = captureTail ((s.pushEdge s.elapsed s.pins.lineLevel).noteLevel s.pins.lineLevel) := by
  unfold exec execCapEdge edgeAppend
  by_cases room : s.edgeCount < s.params.maxEdges <;> simp [room, eq_comm]

/-- CLS_PAIR_FALL answers a next state exactly where both edges are there and the bit buffer has room
(R52, R54, R143). -/
theorem exec_clsPairFall_eq_next {s t : State} :
    exec .clsPairFall s = .next t ↔
      ∃ first second, edgeRead s s.clsIdx = .ok first ∧ edgeRead s (s.clsIdx + 1) = .ok second ∧
        s.bitCount < bitCap s.params ∧
        t = (s.pushBit (pulseBit s.params (pulseDuration first second))).nextPair := by
  unfold exec execClsPairFall bitAppend
  cases edgeRead s s.clsIdx with
  | error f => simp
  | ok first =>
    cases edgeRead s (s.clsIdx + 1) with
    | error f => simp
    | ok second => by_cases room : s.bitCount < bitCap s.params <;> simp [room, eq_comm]

/-- DEC_MATCH answers a next state exactly where the window is whole (R54, R166). -/
theorem exec_decMatch_eq_next {s t : State} :
    exec .decMatch s = .next t ↔
      ∃ w, readWindow s s.winOff = .ok w ∧ t = (s.storeReading w).finish .ok := by
  unfold exec execDecMatch
  cases readWindow s s.winOff <;> simp [eq_comm]

/-- DEC_MISMATCH answers a next state exactly where the window is whole (R54, R167). -/
theorem exec_decMismatch_eq_next {s t : State} :
    exec .decMismatch s = .next t ↔ ∃ w, readWindow s s.winOff = .ok w ∧ t = s.rejectWindow := by
  unfold exec execDecMismatch
  cases readWindow s s.winOff <;> simp [eq_comm]

/-! ### Properties that every named update keeps -/

/-- Every named update that an operation or the edge itself makes keeps `P`; an append only has to where its buffer
has room (R52, R54). -/
structure KeptByUpdates (P : State → Prop) : Prop where
  resetElements : ∀ s, P s → P s.resetElements
  beginAttempt : ∀ s, P s → P s.beginAttempt
  markViolation : ∀ s, P s → P s.markViolation
  finish : ∀ s code, P s → P (s.finish code)
  seedLevel : ∀ s level, P s → P (s.seedLevel level)
  noteLevel : ∀ s level, P s → P (s.noteLevel level)
  tickElapsed : ∀ s, P s → P s.tickElapsed
  enterClassify : ∀ s, P s → P s.enterClassify
  nextPair : ∀ s, P s → P s.nextPair
  enterDecode : ∀ s, P s → P s.enterDecode
  rejectWindow : ∀ s, P s → P s.rejectWindow
  storeReading : ∀ s w, P s → P (s.storeReading w)
  pushEdge : ∀ s ts kind, s.edgeCount < s.params.maxEdges → P s → P (s.pushEdge ts kind)
  pushBit : ∀ s b, s.bitCount < bitCap s.params → P s → P (s.pushBit b)
  advance : ∀ s, P s → P s.advance

namespace KeptByUpdates

variable {P : State → Prop} {s t : State}

/-- Both ways a poll's tail can go are made of kept updates (R121). -/
theorem after_captureTail (kept : KeptByUpdates P) (hs : P s) : P (captureTail s) := by
  obtain ⟨-, eq⟩ | ⟨-, -, eq⟩ := captureTail_cases s
  · exact eq ▸ kept.enterClassify _ (kept.tickElapsed _ hs)
  · exact eq ▸ kept.tickElapsed _ hs

/-- Every operation is made of kept updates. -/
theorem after_exec (kept : KeptByUpdates P) {i : Instr} (hs : P s) (run : exec i s = .next t) : P t := by
  cases i with
  | reset => cases run; exact kept.resetElements _ hs
  | start => cases run; exact kept.beginAttempt _ hs
  | idleHold => cases run; exact hs
  | busyStart => cases run; exact kept.markViolation _ hs
  | capAbort => cases run; exact kept.finish _ _ hs
  | capSeed => cases run; exact kept.after_captureTail (kept.seedLevel _ _ hs)
  | capEdge =>
    obtain ⟨room, rfl⟩ := exec_capEdge_eq_next.mp run
    exact kept.after_captureTail (kept.noteLevel _ _ (kept.pushEdge _ _ _ room hs))
  | capSame => cases run; exact kept.after_captureTail hs
  | clsPairFall =>
    obtain ⟨first, second, -, -, room, rfl⟩ := exec_clsPairFall_eq_next.mp run
    exact kept.nextPair _ (kept.pushBit _ _ room hs)
  | clsPairRise => cases run; exact kept.nextPair _ hs
  | clsEnd => cases run; exact kept.enterDecode _ hs
  | decInsuf => cases run; exact kept.finish _ _ hs
  | decExhaust => cases run; exact kept.finish _ _ hs
  | decMatch =>
    obtain ⟨w, -, rfl⟩ := exec_decMatch_eq_next.mp run
    exact kept.finish _ _ (kept.storeReading _ _ hs)
  | decMismatch =>
    obtain ⟨w, -, rfl⟩ := exec_decMismatch_eq_next.mp run
    exact kept.rejectWindow _ hs

/-- A step is a reset, or one operation with the violation mark beside it, and then the edge is counted (R105). -/
theorem after_step (kept : KeptByUpdates P) (hs : P s) (stepped : step s = .next t) : P t := by
  obtain ⟨-, ⟨-, rfl⟩ | ⟨-, -, u, run, rfl⟩⟩ := step_cases stepped
  · exact kept.advance _ (kept.resetElements _ hs)
  · have hu : P u := kept.after_exec hs run
    apply kept.advance
    split
    · exact kept.markViolation _ hu
    · exact hu

end KeptByUpdates

end Sys2Proof.Machine
end

section
/-! The scope's statements (00_scope.md): the configuration check of R8, the parameters of R7, the widths of R10. -/

namespace Sys2Proof.Machine

/-! ### The configuration check -/

/-- The check of R8 stands before everything else in a step (X14; log 7). -/
theorem step_of_not_wellFormed {s : State} (illegal : ¬ s.params.WellFormed) :
    step s = .refused .badConfiguration := if_neg illegal

/-- Settles O25: each broken constraint contradicts one part of R8's check. -/
theorem illegalConfigurationIsRefused : Obligations.IllegalConfigurationIsRefused := by
  intro s broken
  apply step_of_not_wellFormed
  rintro ⟨clock, edges, window⟩
  omega

/-! ### The parameters -/

/-- No named update writes the parameters. -/
theorem params_keptByUpdates (p : Params) : KeptByUpdates (fun s => s.params = p) where
  resetElements _ h := h
  beginAttempt _ h := h
  markViolation _ h := h
  finish _ _ h := h
  seedLevel _ _ h := h
  noteLevel _ _ h := h
  tickElapsed _ h := h
  enterClassify _ h := h
  nextPair _ h := h
  enterDecode _ h := h
  rejectWindow _ h := h
  storeReading _ _ h := h
  pushEdge _ _ _ _ h := h
  pushBit _ _ _ h := h
  advance _ h := h

/-- Settles O33: the property is that the parameters are those of the state before the step. -/
theorem noStepWritesAParameter : Obligations.NoStepWritesAParameter :=
  fun s _ stepped => (params_keptByUpdates s.params).after_step rfl stepped

/-! ### The widths of the registers -/

/-- A `CW`-bit register holds every number up to BIT_CAP. -/
theorem bitCap_lt_countWidth (p : Params) : bitCap p < 2 ^ countWidth p :=
  (Nat.sub_le _ _).trans_lt (maxEdges_lt_countWidth p)

/-- RESET clears every register of a parameter's width. -/
theorem registersFit_resetElements (s : State) : RegistersFit s.resetElements := by
  constructor <;> simp [State.edgeCount, State.bitCount]

/-- START clears every register of a parameter's width but RES_OFF, which it leaves. -/
theorem registersFit_beginAttempt {s : State} (fit : RegistersFit s) : RegistersFit s.beginAttempt := by
  constructor <;> simp [State.edgeCount, State.bitCount, fit.resOff]

/-- An appended edge has a timestamp of `TS_W` bits, and the count goes up to MAX_EDGES at most (R52). -/
theorem registersFit_pushEdge {s : State} (ts : Nat) (kind : Bool) (room : s.edgeCount < s.params.maxEdges)
    (fit : RegistersFit s) : RegistersFit (s.pushEdge ts kind) where
  __ := fit
  times e he := by
    obtain old | rfl : e ∈ s.edges ∨ e = ⟨fitTs s.params ts, kind⟩ := by simpa using he
    · exact fit.times e old
    · exact fitTs_lt _ _
  edgeCount :=
    calc (s.pushEdge ts kind).edgeCount = s.edgeCount + 1 := by simp [State.edgeCount]
      _ ≤ s.params.maxEdges := room
      _ < 2 ^ countWidth s.params := maxEdges_lt_countWidth _

/-- With an appended bit the count goes up to BIT_CAP at most (R54). -/
theorem registersFit_pushBit {s : State} (b : Bool) (room : s.bitCount < bitCap s.params)
    (fit : RegistersFit s) : RegistersFit (s.pushBit b) where
  __ := fit
  bitCount :=
    calc (s.pushBit b).bitCount = s.bitCount + 1 := by simp [State.bitCount]
      _ ≤ bitCap s.params := room
      _ < 2 ^ countWidth s.params := bitCap_lt_countWidth _

/-- A named update writes a register of a parameter's width with 0, with its low bits (log 3), with a value of the
same width (RES_OFF from WIN_OFF), or as the length of a buffer that had room. -/
theorem registersFit_keptByUpdates : KeptByUpdates RegistersFit where
  resetElements s _ := registersFit_resetElements s
  beginAttempt _ fit := registersFit_beginAttempt fit
  markViolation _ fit := { fit with }
  finish _ _ fit := { fit with }
  seedLevel _ _ fit := { fit with }
  noteLevel _ _ fit := { fit with }
  tickElapsed _ fit := { fit with elapsed := fitTs_lt _ _ }
  enterClassify _ fit := { fit with clsIdx := Nat.two_pow_pos _ }
  nextPair _ fit := { fit with clsIdx := fitCount_lt _ _ }
  enterDecode _ fit := { fit with winOff := Nat.two_pow_pos _ }
  rejectWindow _ fit := { fit with winOff := fitCount_lt _ _, rejects := fitCount_lt _ _ }
  storeReading _ _ fit := { fit with resOff := fit.winOff }
  pushEdge _ ts kind room fit := registersFit_pushEdge ts kind room fit
  pushBit _ b room fit := registersFit_pushBit b room fit
  advance _ fit := { fit with }

/-- Settles O30: every step is made of updates that keep the widths. -/
theorem stepKeepsRegisterWidths : Obligations.StepKeepsRegisterWidths :=
  fun _ _ fit stepped => registersFit_keptByUpdates.after_step fit stepped

end Sys2Proof.Machine
end

section
/-! What the primary row of a cycle says of the state it runs in, and what it leads to (R82, R83, R105): one case per
row, with the row's conditions as facts about the state elements. -/

namespace Sys2Proof.Machine

/-! ### The conditions of a cycle -/

theorem changed_iff {s : State} : s.changed = true ↔ s.pins.lineLevel ≠ s.lastLevel := by
  simp [State.changed]

theorem busyFlag_eq (s : State) : s.busyFlag = decide (s.phase ≠ .idle) := by
  unfold State.busyFlag
  cases s.phase <;> rfl

/-- A pair is there where its second edge is (R80, R140). -/
theorem pairAvail_iff {s : State} : s.pairAvail = true ↔ ∃ second, s.edges[s.clsIdx + 1]? = some second :=
  decide_eq_true_iff.trans (by simp [State.edgeCount, List.getElem?_eq_some_iff])

/-- At a pair's second edge, SEL bit 7 says whether that edge is falling (R80). -/
theorem secondFalling_of_getElem {s : State} {second : EdgeEvent}
    (there : s.edges[s.clsIdx + 1]? = some second) : s.secondFalling = !second.kind := by
  simp [State.secondFalling, pairAvail_iff.mpr ⟨second, there⟩, edgeRead_eq_ok.mpr there]

theorem winAvail_iff {s : State} : s.winAvail = true ↔ s.winOff + 40 ≤ s.bitCount := decide_eq_true_iff

theorem tooFewBits_iff {s : State} : s.tooFewBits = true ↔ s.bitCount < 40 := decide_eq_true_iff

/-- At a whole window, SEL bit 10 is the window's checksum test (R80). -/
theorem windowOk_of_whole {s : State} (whole : s.winOff + 40 ≤ s.bitCount) :
    s.windowOk = checksumOk (windowOf s.bits s.winOff) := by
  simp [State.windowOk, winAvail_iff.mpr whole, readWindow_eq_ok.mpr ⟨whole, rfl⟩]

/-! ### The rows -/

/-- `RowEffect s u`: the conditions of one primary row hold in `s`, and the row leads from `s` to `u` (R82, R83).
Before the violation mark and the count of the edge (R105). -/
inductive RowEffect (s : State) : State → Prop where
  | start (phase : s.phase = .idle) (start : s.pins.start = true) : RowEffect s s.beginAttempt
  | idleHold (phase : s.phase = .idle) (noStart : s.pins.start = false) : RowEffect s s
  | capAbort (phase : s.phase = .capture) (failed : s.pins.lineErr = true) : RowEffect s (s.finish .lineIoFailed)
  | capSeed (phase : s.phase = .capture) (read : s.pins.lineErr = false) (unseeded : s.haveLast = false) :
      RowEffect s (captureTail (s.seedLevel s.pins.lineLevel))
  | capEdge (phase : s.phase = .capture) (read : s.pins.lineErr = false) (seeded : s.haveLast = true)
      (changed : s.pins.lineLevel ≠ s.lastLevel) (room : s.edgeCount < s.params.maxEdges) :
      RowEffect s (captureTail ((s.pushEdge s.elapsed s.pins.lineLevel).noteLevel s.pins.lineLevel))
  | capSame (phase : s.phase = .capture) (read : s.pins.lineErr = false) (seeded : s.haveLast = true)
      (same : s.pins.lineLevel = s.lastLevel) : RowEffect s (captureTail s)
  | clsPairFall (phase : s.phase = .classify) (first second : EdgeEvent) (before : s.edges[s.clsIdx]? = some first)
      (there : s.edges[s.clsIdx + 1]? = some second) (falling : second.kind = false)
      (room : s.bitCount < bitCap s.params) :
      RowEffect s (s.pushBit (pulseBit s.params (pulseDuration first second))).nextPair
  | clsPairRise (phase : s.phase = .classify) (second : EdgeEvent) (there : s.edges[s.clsIdx + 1]? = some second)
      (rising : second.kind = true) : RowEffect s s.nextPair
  | clsEnd (phase : s.phase = .classify) (done : s.edgeCount ≤ s.clsIdx + 1) : RowEffect s s.enterDecode
  | decInsuf (phase : s.phase = .decode) (short : s.bitCount < 40) : RowEffect s (s.finish .insufficientData)
  | decExhaust (phase : s.phase = .decode) (enough : 40 ≤ s.bitCount) (none : s.bitCount < s.winOff + 40) :
      RowEffect s (s.finish .noValidFrame)
  | decMatch (phase : s.phase = .decode) (whole : s.winOff + 40 ≤ s.bitCount)
      (valid : checksumOk (windowOf s.bits s.winOff) = true) :
      RowEffect s ((s.storeReading (windowOf s.bits s.winOff)).finish .ok)
  | decMismatch (phase : s.phase = .decode) (whole : s.winOff + 40 ≤ s.bitCount)
      (invalid : checksumOk (windowOf s.bits s.winOff) = false) : RowEffect s s.rejectWindow

/-- What the row that the conditions select answers: the order of R82 makes each row's conditions facts. -/
theorem rowEffect_of_exec_row {s u : State} (run : exec s.row s = .next u) : RowEffect s u := by
  cases phase : s.phase <;> simp only [State.row, rowOfConditions, phase] at run
  case idle =>
    split_ifs at run with start
    · cases run; exact .start phase start
    · cases run; exact .idleHold phase (by simpa using start)
  case capture =>
    split_ifs at run with failed seeded changed
    · cases run; exact .capAbort phase failed
    · obtain ⟨room, rfl⟩ := exec_capEdge_eq_next.mp run
      exact .capEdge phase (by simpa using failed) seeded (changed_iff.mp changed) room
    · cases run; exact .capSame phase (by simpa using failed) seeded (by simpa [State.changed] using changed)
    · cases run; exact .capSeed phase (by simpa using failed) (by simpa using seeded)
  case classify =>
    split_ifs at run with avail falling
    · obtain ⟨first, second, before, there, room, rfl⟩ := exec_clsPairFall_eq_next.mp run
      rw [edgeRead_eq_ok] at before there
      exact .clsPairFall phase first second before there
        (by simpa [secondFalling_of_getElem there] using falling) room
    · cases run
      obtain ⟨second, there⟩ := pairAvail_iff.mp avail
      exact .clsPairRise phase second there (by simpa [secondFalling_of_getElem there] using falling)
    · cases run; exact .clsEnd phase (by simpa [State.pairAvail] using avail)
  case decode =>
    split_ifs at run with short avail valid
    · cases run; exact .decInsuf phase (tooFewBits_iff.mp short)
    · obtain ⟨w, read, rfl⟩ := exec_decMatch_eq_next.mp run
      obtain ⟨whole, rfl⟩ := readWindow_eq_ok.mp read
      exact .decMatch phase whole (by rwa [windowOk_of_whole whole] at valid)
    · obtain ⟨-, -, rfl⟩ := exec_decMismatch_eq_next.mp run
      have whole := winAvail_iff.mp avail
      exact .decMismatch phase whole (by simpa [windowOk_of_whole whole] using valid)
    · cases run
      exact .decExhaust phase (by simpa [tooFewBits_iff] using short) (by simpa [winAvail_iff] using avail)

/-- A cycle without reset is its primary row, with HOST_VIOL set beside it by START outside IDLE, and then the edge
is counted (R102, R105). -/
theorem step_without_reset {s t : State} (stepped : step s = .next t) (noReset : s.pins.rst = false) :
    ∃ u, RowEffect s u ∧
      t = State.advance { u with hostViol := u.hostViol || (s.pins.start && decide (s.phase ≠ .idle)) } := by
  obtain ⟨-, ⟨reset, -⟩ | ⟨-, -, u, run, rfl⟩⟩ := step_cases stepped
  · exact absurd reset (by simp [noReset])
  · refine ⟨u, rowEffect_of_exec_row run, ?_⟩
    rw [← busyFlag_eq, ← State.startWhileBusy]
    cases s.startWhileBusy <;> simp [State.markViolation]

/-! ### What a poll's tail leaves unchanged -/

/-- The tail of a poll writes PHASE, ELAPSED and CLS_IDX and nothing else (R121). -/
theorem captureTail_frame (s : State) :
    ∃ phase clsIdx, captureTail s = { s.tickElapsed with phase := phase, clsIdx := clsIdx } := by
  obtain ⟨-, eq⟩ | ⟨-, -, eq⟩ := captureTail_cases s
  · exact ⟨.classify, 0, eq⟩
  · exact ⟨s.phase, s.clsIdx, eq⟩

@[simp] theorem captureTail_edges (s : State) : (captureTail s).edges = s.edges := by
  obtain ⟨_, _, eq⟩ := captureTail_frame s; rw [eq]; rfl
@[simp] theorem captureTail_bits (s : State) : (captureTail s).bits = s.bits := by
  obtain ⟨_, _, eq⟩ := captureTail_frame s; rw [eq]; rfl
@[simp] theorem captureTail_resHum (s : State) : (captureTail s).resHum = s.resHum := by
  obtain ⟨_, _, eq⟩ := captureTail_frame s; rw [eq]; rfl
@[simp] theorem captureTail_resTemp (s : State) : (captureTail s).resTemp = s.resTemp := by
  obtain ⟨_, _, eq⟩ := captureTail_frame s; rw [eq]; rfl
@[simp] theorem captureTail_resTsign (s : State) : (captureTail s).resTsign = s.resTsign := by
  obtain ⟨_, _, eq⟩ := captureTail_frame s; rw [eq]; rfl
@[simp] theorem captureTail_resFrame (s : State) : (captureTail s).resFrame = s.resFrame := by
  obtain ⟨_, _, eq⟩ := captureTail_frame s; rw [eq]; rfl
@[simp] theorem captureTail_resOff (s : State) : (captureTail s).resOff = s.resOff := by
  obtain ⟨_, _, eq⟩ := captureTail_frame s; rw [eq]; rfl
@[simp] theorem captureTail_haveReading (s : State) : (captureTail s).haveReading = s.haveReading := by
  obtain ⟨_, _, eq⟩ := captureTail_frame s; rw [eq]; rfl
@[simp] theorem captureTail_hostViol (s : State) : (captureTail s).hostViol = s.hostViol := by
  obtain ⟨_, _, eq⟩ := captureTail_frame s; rw [eq]; rfl

end Sys2Proof.Machine
end

section
/-! The statements of 10_state.md about one step: the reset values, and what a cycle without reset leaves unchanged. -/

namespace Sys2Proof.Machine

/-- Settles O1: a buffer without an entry holds no value at any index. -/
theorem resetLoadsEveryResetValue : Obligations.ResetLoadsEveryResetValue :=
  ⟨rfl, rfl, fun s => ⟨s.resetElements, rfl, by simp [State.edgeCount, State.bitCount, edgeRead, bitRead]⟩⟩

/-- Settles O34: DEC_MATCH is the only row that writes a result register. -/
theorem onlyAMatchWritesTheResults : Obligations.OnlyAMatchWritesTheResults := by
  intro s t stepped noReset
  obtain ⟨u, effect, rfl⟩ := step_without_reset stepped noReset
  cases effect with
  | decMatch phase whole valid =>
    exact .inr ⟨phase, rfl, rfl, rfl, rfl, readWindow_eq_ok.mpr ⟨whole, rfl⟩, valid, rfl, rfl, rfl⟩
  | _ => exact .inl (by simp [SameResults])

/-- No primary row writes HOST_VIOL (R105). -/
theorem RowEffect.hostViol_eq {s u : State} (effect : RowEffect s u) : u.hostViol = s.hostViol := by
  cases effect <;> simp

/-- Settles O35: HOST_VIOL is BUSY_START's alone, and HAVE_READING is written by DEC_MATCH alone. -/
theorem stickyFlagsClearOnlyOnReset : Obligations.StickyFlagsClearOnlyOnReset := by
  intro s t stepped noReset
  obtain ⟨u, effect, rfl⟩ := step_without_reset stepped noReset
  refine ⟨by simp [effect.hostViol_eq], ?_⟩
  cases effect with
  | decMatch phase => exact ⟨fun _ => rfl, fun _ _ => ⟨phase, rfl, rfl⟩⟩
  | _ => simp +contextual

/-- Settles O36: START empties the edge buffer, CAP_EDGE appends to it, and no other row writes it. -/
theorem recordedEdgesAreImmutable : Obligations.RecordedEdgesAreImmutable := by
  intro s t stepped noReset
  obtain ⟨u, effect, rfl⟩ := step_without_reset stepped noReset
  cases effect with
  | start phase start => exact .inr (.inl ⟨phase, start, rfl⟩)
  | capEdge phase read seeded changed room =>
    exact .inr (.inr ⟨phase, room, seeded, read, changed, by simp [fitTs]⟩)
  | _ => exact .inl (by simp)

/-- Settles O37: START empties the bit buffer, CLS_PAIR_FALL appends to it, and no other row writes it. -/
theorem classifiedBitsAreImmutable : Obligations.ClassifiedBitsAreImmutable := by
  intro s t stepped noReset
  obtain ⟨u, effect, rfl⟩ := step_without_reset stepped noReset
  cases effect with
  | start phase start => exact .inr (.inl ⟨phase, start, rfl⟩)
  | clsPairFall phase _ _ _ _ _ room => exact .inr (.inr ⟨phase, room, _, rfl⟩)
  | _ => exact .inl (by simp)

/-- Settles O38: the rows that write the time base or the level are START's and those of a poll that was read. -/
theorem timeRunsOnlyInCapture : Obligations.TimeRunsOnlyInCapture := by
  intro s t stepped noReset stopped
  obtain ⟨u, effect, rfl⟩ := step_without_reset stepped noReset
  cases effect with
  | start phase start => simp [phase, start] at stopped
  | capSeed phase read | capEdge phase read | capSame phase read => simp [phase, read] at stopped
  | _ => exact ⟨rfl, rfl, rfl⟩

end Sys2Proof.Machine
end

section
/-! Pairs of consecutive entries of a list, and the count of falling edges (R38 (b), (c), (e), (f)). -/

namespace Sys2Proof.Machine

/-- The index form in which R38 speaks of consecutive entries is the library's chain. -/
theorem isChain_iff_getElem? {α : Type} {R : α → α → Prop} {l : List α} :
    l.IsChain R ↔ ∀ i a b, l[i]? = some a → l[i + 1]? = some b → R a b := by
  rw [List.isChain_iff_getElem]
  constructor
  · intro chain i a b ha hb
    obtain ⟨_, rfl⟩ := List.getElem?_eq_some_iff.mp ha
    obtain ⟨hi, rfl⟩ := List.getElem?_eq_some_iff.mp hb
    exact chain i hi
  · exact fun pairs i hi => pairs i _ _ (List.getElem?_eq_getElem _) (List.getElem?_eq_getElem hi)

/-- A new last entry keeps a relation between consecutive entries where it stands so to the old last one. -/
theorem consecutive_append {α : Type} {R : α → α → Prop} {l : List α} {new : α}
    (pairs : ∀ i a b, l[i]? = some a → l[i + 1]? = some b → R a b)
    (last : ∀ a, l.getLast? = some a → R a new) :
    ∀ i a b, (l ++ [new])[i]? = some a → (l ++ [new])[i + 1]? = some b → R a b := by
  rw [← isChain_iff_getElem?] at pairs ⊢
  exact List.isChain_append.mpr ⟨pairs, .singleton _, by simpa using last⟩

/-- Among edges of alternating kinds at most every second one is falling. -/
theorem falling_of_alternating_le : ∀ {l : List EdgeEvent}, l.IsChain (fun a b => b.kind = !a.kind) →
    (l.filter (fun e => !e.kind)).length ≤ (l.length + 1) / 2
  | [], _ => by simp
  | [a], _ => (List.length_filter_le _ _).trans (by simp)
  | a :: b :: rest, chain => by
    obtain ⟨alternate, chain⟩ := List.isChain_cons_cons.mp chain
    have ih := falling_of_alternating_le chain.tail
    rw [List.tail_cons] at ih
    cases kind : a.kind <;> simp [kind, alternate] <;> omega

/-- R38 (f): the falling edges after the first are at most half of all. -/
theorem fallingAfterFirst_le_half {l : List EdgeEvent} (chain : l.IsChain (fun a b => b.kind = !a.kind)) :
    fallingAfterFirst l ≤ l.length / 2 := by
  have bound := falling_of_alternating_le chain.tail
  rw [List.length_tail] at bound
  exact bound.trans (by omega)

/-- The second edges of the first `k` pairs are the `k` entries after the first. -/
theorem fallingAfterFirst_take (l : List EdgeEvent) (k : Nat) :
    fallingAfterFirst (l.take (k + 1)) = ((l.tail.take k).filter (fun e => !e.kind)).length := by
  cases l <;> simp [fallingAfterFirst]

/-- Not more falling edges than pairs examined. -/
theorem fallingAfterFirst_take_le (l : List EdgeEvent) (k : Nat) : fallingAfterFirst (l.take (k + 1)) ≤ k := by
  rw [fallingAfterFirst_take]
  exact (List.length_filter_le _ _).trans (List.length_take_le _ _)

/-- One more pair examined: its second edge counts where it is falling (R140, R143, R144). -/
theorem fallingAfterFirst_take_succ {l : List EdgeEvent} {k : Nat} {second : EdgeEvent}
    (there : l[k + 1]? = some second) :
    fallingAfterFirst (l.take (k + 1 + 1)) =
      fallingAfterFirst (l.take (k + 1)) + if second.kind = false then 1 else 0 := by
  rw [fallingAfterFirst_take, fallingAfterFirst_take, List.take_add_one, List.getElem?_tail, there]
  cases kind : second.kind <;> simp [kind]

/-- R38 (e) counts the falling edges by their index. -/
theorem fallingAfterFirst_take_eq_range {l : List EdgeEvent} {k : Nat} (hk : k ≤ l.length - 1) :
    fallingAfterFirst (l.take (k + 1)) =
      ((List.range' 1 k).filter (fun j => decide (∃ e ∈ l[j]?, e.kind = false))).length := by
  induction k with
  | zero => simp [fallingAfterFirst_take]
  | succ k ih =>
    have there : l[k + 1]? = some l[k + 1] := List.getElem?_eq_getElem (by omega)
    rw [fallingAfterFirst_take_succ there, ih (by omega), List.range'_concat, List.filter_append]
    cases kind : l[k + 1].kind <;> simp [Nat.add_comm 1 k, there, kind]

end Sys2Proof.Machine
end

section
/-! The invariants of R38: every row keeps them (O28), reset establishes them (O27), so every reachable state has them
(O32). -/

namespace Sys2Proof.Machine

variable {s u : State}

/-! ### Reset and START -/

/-- Where the registers of an attempt are clear, only the invariants on the configuration, STATUS and the last reading
are left to hold. -/
theorem attemptInv_of_cleared (config : s.params.WellFormed) (statusLegal : s.status.isReserved = false)
    (busyWhileRunning : s.status = .busy ↔ s.phase ≠ .idle) (elapsed : s.elapsed = 0) (edges : s.edges = [])
    (clsIdx : s.clsIdx = 0) (bits : s.bits = []) (winOff : s.winOff = 0) (rejects : s.rejects = 0)
    (okHasReading : s.phase = .idle → s.status = .ok → s.haveReading = true)
    (noReadingZero : s.haveReading = false →
      s.resHum = 0#16 ∧ s.resTemp = 0#16 ∧ s.resTsign = false ∧ s.resFrame = 0#40 ∧ s.resOff = 0)
    (resultOffsetBound : s.haveReading = true → s.resOff + 40 ≤ bitCap s.params) : AttemptInv s where
  config := config
  statusLegal := statusLegal
  busyWhileRunning := busyWhileRunning
  edgesFit := by simp [State.edgeCount, edges]
  bitsFit := by simp [State.edgeCount, State.bitCount, edges, bits]
  timesRise := by simp [edges]
  timesPast := by simp [edges]
  kindsAlternate := by simp [edges]
  lastIsLevel := by simp [edges]
  noEdgeUnseeded _ := edges
  elapsedBound := by simp [elapsed]
  captureOpen _ := by
    obtain ⟨-, room, -⟩ := config
    exact ⟨by simp [elapsed], by rw [State.edgeCount, edges]; exact room⟩
  seedAtZero _ _ := elapsed
  noBitsInCapture _ := bits
  pairIndexBound := by simp [clsIdx]
  bitsCountFalls _ := by simp [State.bitCount, edges, bits, fallingAfterFirst]
  bitsHalfEdges := by simp [State.bitCount, bits]
  rejectsAreOffset := rejects.trans winOff.symm
  noWindowYet _ := winOff
  offsetBound := by simp [winOff]
  okHasReading := okHasReading
  noReadingZero := noReadingZero
  resultOffsetBound := resultOffsetBound

theorem attemptInv_resetElements (config : s.params.WellFormed) : AttemptInv s.resetElements := by
  apply attemptInv_of_cleared
  case config => exact config
  all_goals simp [Status.isReserved]

theorem attemptInv_beginAttempt (inv : AttemptInv s) : AttemptInv s.beginAttempt := by
  apply attemptInv_of_cleared
  case config => exact inv.config
  case noReadingZero => exact inv.noReadingZero
  case resultOffsetBound => exact inv.resultOffsetBound
  all_goals simp [Status.isReserved]

/-! ### CAPTURE -/

/-- `Polled s`: `s` is in CAPTURE between a poll's own writes and the tail of R121, with the level seeded. Unlike
before and after, the last edge may be of this very moment, and the edge buffer may be full. -/
structure Polled (s : State) : Prop where
  config : s.params.WellFormed
  status : s.status = .busy
  phase : s.phase = .capture
  seeded : s.haveLast = true
  elapsedFits : s.elapsed ≤ s.params.captureTicks
  edgesFit : s.edgeCount ≤ s.params.maxEdges
  timesRise : ∀ i a b, s.edges[i]? = some a → s.edges[i + 1]? = some b → a.ts < b.ts
  timesSoFar : ∀ e ∈ s.edges, e.ts ≤ s.elapsed
  kindsAlternate : ∀ i a b, s.edges[i]? = some a → s.edges[i + 1]? = some b → b.kind = !a.kind
  lastIsLevel : ∀ e, s.edges.getLast? = some e → s.lastLevel = e.kind
  noBits : s.bits = []
  pairIndexBound : s.clsIdx ≤ s.edgeCount - 1
  winOff : s.winOff = 0
  rejects : s.rejects = 0
  noReadingZero : s.haveReading = false →
    s.resHum = 0#16 ∧ s.resTemp = 0#16 ∧ s.resTsign = false ∧ s.resFrame = 0#40 ∧ s.resOff = 0
  resultOffsetBound : s.haveReading = true → s.resOff + 40 ≤ bitCap s.params

/-- R13 (a), R35: no time that a poll comes to wraps. -/
theorem fitTs_of_le_captureTicks {p : Params} {v : Nat} (config : p.WellFormed) (h : v ≤ p.captureTicks + 1) :
    fitTs p v = v := by
  obtain ⟨-, -, window⟩ := config
  have := Nat.two_pow_pos p.tsW
  exact fitTs_of_lt (by omega)

namespace Polled

theorem elapsed_tickElapsed (polled : Polled s) : s.tickElapsed.elapsed = s.elapsed + 1 :=
  fitTs_of_le_captureTicks polled.config (Nat.succ_le_succ polled.elapsedFits)

/-- A poll that ends the capture keeps the invariants. -/
theorem attemptInv_enterClassify (polled : Polled s) : AttemptInv s.tickElapsed.enterClassify where
  config := polled.config
  statusLegal := by simp [polled.status, Status.isReserved]
  busyWhileRunning := by simp [polled.status]
  edgesFit := polled.edgesFit
  bitsFit := ⟨by simp [State.bitCount, polled.noBits], Nat.sub_le_sub_right polled.edgesFit 1⟩
  timesRise := polled.timesRise
  timesPast e he := by
    rw [State.enterClassify_elapsed, polled.elapsed_tickElapsed]
    exact Nat.lt_succ_of_le (polled.timesSoFar e he)
  kindsAlternate := polled.kindsAlternate
  lastIsLevel _ := polled.lastIsLevel
  noEdgeUnseeded := by simp [polled.seeded]
  elapsedBound := by
    rw [State.enterClassify_elapsed, polled.elapsed_tickElapsed]
    exact Nat.succ_le_succ polled.elapsedFits
  captureOpen := by simp
  seedAtZero := by simp
  noBitsInCapture := by simp
  pairIndexBound := by simp
  bitsCountFalls _ := by simp [State.bitCount, polled.noBits, fallingAfterFirst_take]
  bitsHalfEdges := by simp [State.bitCount, polled.noBits]
  rejectsAreOffset := polled.rejects.trans polled.winOff.symm
  noWindowYet _ := polled.winOff
  offsetBound := by simp [polled.winOff]
  okHasReading := by simp
  noReadingZero := polled.noReadingZero
  resultOffsetBound := polled.resultOffsetBound

/-- A poll after which there is time and room left keeps the invariants. -/
theorem attemptInv_tickElapsed (polled : Polled s) (time : s.elapsed ≠ s.params.captureTicks)
    (room : s.edgeCount ≠ s.params.maxEdges) : AttemptInv s.tickElapsed where
  __ := polled.attemptInv_enterClassify
  busyWhileRunning := by simp [polled.status, polled.phase]
  captureOpen _ := by
    rw [polled.elapsed_tickElapsed]
    exact ⟨Nat.lt_of_le_of_ne polled.elapsedFits time, Nat.lt_of_le_of_ne polled.edgesFit room⟩
  seedAtZero := by simp [polled.seeded]
  noBitsInCapture _ := polled.noBits
  pairIndexBound := polled.pairIndexBound
  bitsCountFalls := by simp [polled.phase]
  noWindowYet _ := polled.winOff
  okHasReading := by simp [polled.phase]

/-- R121: the tail of a poll ends the capture exactly where there is no time or no room left. -/
theorem attemptInv_captureTail (polled : Polled s) : AttemptInv (captureTail s) := by
  obtain ⟨-, eq⟩ | ⟨room, time, eq⟩ := captureTail_cases s
  · exact eq ▸ polled.attemptInv_enterClassify
  · exact eq ▸ polled.attemptInv_tickElapsed time room

end Polled

/-- A poll without a change writes nothing before its tail (R125). -/
theorem polled_of_seeded (inv : AttemptInv s) (phase : s.phase = .capture) (seeded : s.haveLast = true) :
    Polled s where
  config := inv.config
  status := inv.busyWhileRunning.mpr (by simp [phase])
  phase := phase
  seeded := seeded
  elapsedFits := (inv.captureOpen phase).1
  edgesFit := inv.edgesFit
  timesRise := inv.timesRise
  timesSoFar e he := (inv.timesPast e he).le
  kindsAlternate := inv.kindsAlternate
  lastIsLevel := inv.lastIsLevel seeded
  noBits := inv.noBitsInCapture phase
  pairIndexBound := inv.pairIndexBound
  winOff := inv.noWindowYet (.inl phase)
  rejects := inv.rejectsAreOffset.trans (inv.noWindowYet (.inl phase))
  noReadingZero := inv.noReadingZero
  resultOffsetBound := inv.resultOffsetBound

/-- With no edge yet the level can be seeded freely (R24, R123). -/
theorem attemptInv_seedLevel (level : Bool) (inv : AttemptInv s) (unseeded : s.haveLast = false) :
    AttemptInv (s.seedLevel level) where
  __ := inv
  lastIsLevel := by simp [inv.noEdgeUnseeded unseeded]
  noEdgeUnseeded _ := inv.noEdgeUnseeded unseeded
  seedAtZero := by simp

/-- A changed level gives an edge later than the last one and of the other kind (R124, R128). -/
theorem polled_pushEdge (polled : Polled s) (past : ∀ e ∈ s.edges, e.ts < s.elapsed)
    (room : s.edgeCount < s.params.maxEdges) {level : Bool} (changed : level ≠ s.lastLevel) :
    Polled ((s.pushEdge s.elapsed level).noteLevel level) := by
  have stamp : fitTs s.params s.elapsed = s.elapsed :=
    fitTs_of_le_captureTicks polled.config (Nat.le_succ_of_le polled.elapsedFits)
  have edges : ((s.pushEdge s.elapsed level).noteLevel level).edges = s.edges ++ [⟨s.elapsed, level⟩] := by
    simp [stamp]
  have count : ((s.pushEdge s.elapsed level).noteLevel level).edgeCount = s.edgeCount + 1 := by
    simp [State.edgeCount]
  exact
  { polled with
    edgesFit := count ▸ room
    timesRise := edges ▸ consecutive_append polled.timesRise
      (fun a ha => past a (List.mem_of_getLast? ha))
    timesSoFar := edges ▸ List.forall_mem_append.mpr ⟨polled.timesSoFar, by simp⟩
    kindsAlternate := edges ▸ consecutive_append polled.kindsAlternate
      (fun a ha => by
        rw [← polled.lastIsLevel a ha]
        exact Bool.eq_not_of_ne changed)
    lastIsLevel := by simp
    pairIndexBound := by
      rw [count]
      exact polled.pairIndexBound.trans (by omega) }

/-! ### CLASSIFY -/

/-- R13 (b): no index that a further pair or window comes to wraps. -/
theorem fitCount_of_le_edgeCount (inv : AttemptInv s) {v : Nat} (h : v ≤ s.edgeCount) : fitCount s.params v = v :=
  fitCount_of_lt ((h.trans inv.edgesFit).trans_lt (maxEdges_lt_countWidth _))

/-- The next pair's index, where the pair examined was there. -/
theorem AttemptInv.clsIdx_nextPair (inv : AttemptInv s) {second : EdgeEvent}
    (there : s.edges[s.clsIdx + 1]? = some second) :
    s.nextPair.clsIdx = s.clsIdx + 1 ∧ s.clsIdx + 1 < s.edgeCount := by
  obtain ⟨bound, -⟩ := List.getElem?_eq_some_iff.mp there
  exact ⟨fitCount_of_le_edgeCount inv bound.le, bound⟩

/-- A rising second edge moves on to the next pair, and no falling edge is passed (R144). -/
theorem attemptInv_nextPair (inv : AttemptInv s) (phase : s.phase = .classify) {second : EdgeEvent}
    (there : s.edges[s.clsIdx + 1]? = some second) (rising : second.kind = true) : AttemptInv s.nextPair := by
  obtain ⟨next, bound⟩ := inv.clsIdx_nextPair there
  exact
  { inv with
    pairIndexBound := next ▸ Nat.le_sub_one_of_lt bound
    bitsCountFalls := fun _ => by
      rw [next, State.nextPair_edges, fallingAfterFirst_take_succ there, ← inv.bitsCountFalls phase]
      simp [rising, State.bitCount] }

/-- A falling second edge is one more falling edge passed and one more bit, so the bits stay within half of the edges,
which alternate (R143, R146). -/
theorem attemptInv_pushBit_nextPair (inv : AttemptInv s) (phase : s.phase = .classify) {second : EdgeEvent}
    (there : s.edges[s.clsIdx + 1]? = some second) (falling : second.kind = false) (bit : Bool) :
    AttemptInv (s.pushBit bit).nextPair := by
  obtain ⟨next, bound⟩ := inv.clsIdx_nextPair there
  have next : (s.pushBit bit).nextPair.clsIdx = s.clsIdx + 1 := next
  have count : (s.pushBit bit).nextPair.bitCount = s.bitCount + 1 := by simp [State.bitCount]
  have falls : s.bitCount + 1 = fallingAfterFirst (s.edges.take (s.clsIdx + 1 + 1)) := by
    rw [fallingAfterFirst_take_succ there, ← inv.bitsCountFalls phase, if_pos falling]
  have fits : s.bitCount + 1 ≤ s.edgeCount - 1 :=
    calc s.bitCount + 1 ≤ s.clsIdx + 1 := falls ▸ fallingAfterFirst_take_le _ _
      _ ≤ s.edgeCount - 1 := Nat.le_sub_one_of_lt bound
  have half : s.bitCount + 1 ≤ s.edgeCount / 2 :=
    calc s.bitCount + 1 ≤ (s.edges.take (s.clsIdx + 1 + 1)).length / 2 :=
          falls ▸ fallingAfterFirst_le_half ((isChain_iff_getElem?.mpr inv.kindsAlternate).take _)
      _ ≤ s.edgeCount / 2 := Nat.div_le_div_right (List.length_take_le' _ _)
  exact
  { inv with
    bitsFit := count ▸ ⟨fits, inv.bitsFit.2⟩
    noBitsInCapture := by simp [phase]
    pairIndexBound := next ▸ Nat.le_sub_one_of_lt bound
    bitsCountFalls := fun _ => by rw [next, count]; exact falls
    bitsHalfEdges := count ▸ half
    offsetBound := count ▸ inv.offsetBound.trans (Nat.sub_le_sub_right (Nat.le_succ _) _) }

/-- The first window is at offset 0 (R145). -/
theorem attemptInv_enterDecode (inv : AttemptInv s) (phase : s.phase = .classify) : AttemptInv s.enterDecode where
  __ := inv
  busyWhileRunning := by simp [inv.busyWhileRunning, phase]
  captureOpen := by simp
  seedAtZero := by simp
  noBitsInCapture := by simp
  bitsCountFalls := by simp
  rejectsAreOffset := inv.rejectsAreOffset.trans (inv.noWindowYet (.inr phase))
  noWindowYet _ := rfl
  offsetBound := by simp
  okHasReading := by simp

/-! ### DECODE and the end of an attempt -/

/-- The bits are fewer than the edges, so a whole window ends within a count's width (R13 (b), R38 (a)). -/
theorem AttemptInv.bitCount_le_edgeCount (inv : AttemptInv s) : s.bitCount ≤ s.edgeCount :=
  inv.bitsFit.1.trans (Nat.sub_le _ _)

/-- A rejected window moves REJECTS and WIN_OFF on together (R167). -/
theorem attemptInv_rejectWindow (inv : AttemptInv s) (phase : s.phase = .decode)
    (whole : s.winOff + 40 ≤ s.bitCount) : AttemptInv s.rejectWindow := by
  have next : s.rejectWindow.winOff = s.winOff + 1 :=
    fitCount_of_le_edgeCount inv (by have := inv.bitCount_le_edgeCount; omega)
  exact
  { inv with
    rejectsAreOffset := by simp [inv.rejectsAreOffset]
    noWindowYet := by simp [phase]
    offsetBound := by
      rw [next]
      show s.winOff + 1 ≤ s.bitCount - 39
      omega }

/-- The accepted window lies in the Bit Sequence (R166). -/
theorem attemptInv_storeReading (w : FrameWord) (inv : AttemptInv s) (whole : s.winOff + 40 ≤ s.bitCount) :
    AttemptInv (s.storeReading w) where
  __ := inv
  okHasReading _ _ := rfl
  noReadingZero := by simp
  resultOffsetBound _ := whole.trans (inv.bitsFit.1.trans inv.bitsFit.2)

/-- An attempt can end with any outcome, with OK where there is a reading (R192). -/
theorem attemptInv_finish (code : Status) (inv : AttemptInv s) (legal : code.isReserved = false)
    (ended : code ≠ .busy) (reading : code = .ok → s.haveReading = true) : AttemptInv (s.finish code) where
  __ := inv
  statusLegal := legal
  busyWhileRunning := by simp [ended]
  captureOpen := by simp
  seedAtZero := by simp
  noBitsInCapture := by simp
  bitsCountFalls := by simp
  noWindowYet := by simp
  okHasReading _ := reading

/-! ### Every step -/

/-- Every primary row keeps the invariants. -/
theorem attemptInv_of_rowEffect (inv : AttemptInv s) (effect : RowEffect s u) : AttemptInv u := by
  cases effect with
  | start => exact attemptInv_beginAttempt inv
  | idleHold => exact inv
  | capAbort => exact attemptInv_finish _ inv rfl (by decide) (by simp)
  | capSeed phase _ unseeded =>
    exact (polled_of_seeded (attemptInv_seedLevel _ inv unseeded) phase rfl).attemptInv_captureTail
  | capEdge phase _ seeded changed room =>
    exact (polled_pushEdge (polled_of_seeded inv phase seeded) inv.timesPast room changed).attemptInv_captureTail
  | capSame phase _ seeded => exact (polled_of_seeded inv phase seeded).attemptInv_captureTail
  | clsPairFall phase _ _ _ there falling => exact attemptInv_pushBit_nextPair inv phase there falling _
  | clsPairRise phase _ there rising => exact attemptInv_nextPair inv phase there rising
  | clsEnd phase => exact attemptInv_enterDecode inv phase
  | decInsuf => exact attemptInv_finish _ inv rfl (by decide) (by simp)
  | decExhaust => exact attemptInv_finish _ inv rfl (by decide) (by simp)
  | decMatch _ whole =>
    exact attemptInv_finish _ (attemptInv_storeReading _ inv whole) rfl (by decide) (fun _ => rfl)
  | decMismatch phase whole => exact attemptInv_rejectWindow inv phase whole

/-- Settles O28: a reset establishes the invariants, every primary row keeps them, and they say nothing of HOST_VIOL or
of the inputs to come. -/
theorem stepKeepsAttemptInv : Obligations.StepKeepsAttemptInv := by
  intro s t inv stepped
  cases reset : s.pins.rst with
  | true =>
    obtain ⟨-, ⟨-, rfl⟩ | ⟨noReset, -⟩⟩ := step_cases stepped
    · exact { attemptInv_resetElements inv.config with }
    · simp [reset] at noReset
  | false =>
    obtain ⟨u, effect, rfl⟩ := step_without_reset stepped reset
    exact { attemptInv_of_rowEffect inv effect with }

/-! ### Every run -/

theorem stageInv_resetElements (s : State) : StageInv s.resetElements := by
  constructor <;> simp

/-- Settles O27: the state after reset is one that RESET leaves as it is. -/
theorem resetKeepsTheInvariants : Obligations.ResetKeepsTheInvariants :=
  fun p inputs config =>
    have same : (State.resetWith p inputs).resetElements = State.resetWith p inputs := rfl
    ⟨same ▸ attemptInv_resetElements config, same ▸ stageInv_resetElements _,
      same ▸ registersFit_resetElements _⟩

/-- The induction over runs: reset establishes the invariants and every step keeps them. -/
theorem attemptInv_of_reachable (reachable : Reachable s) : AttemptInv s := by
  induction reachable with
  | atReset p inputs legal => exact (resetKeepsTheInvariants p inputs legal).1
  | afterStep s t _ stepped ih => exact stepKeepsAttemptInv s t ih stepped

/-- Settles O32: the nine invariants are read off AttemptInv; R38 (d) and (e) speak of edges by index. -/
theorem reachableStatesSatisfyTheNineInvariants : Obligations.ReachableStatesSatisfyTheNineInvariants := by
  intro s reachable
  have inv := attemptInv_of_reachable reachable
  refine ⟨⟨inv.edgesFit, ?_⟩, ⟨inv.timesRise, ?_⟩, inv.kindsAlternate, ?_, ?_, inv.bitsHalfEdges,
    fun _ => inv.rejectsAreOffset, inv.okHasReading, inv.noReadingZero⟩
  · simpa using inv.bitsFit
  · exact fun i a ha => inv.timesPast a (List.mem_of_getElem? ha)
  · exact fun e seeded last => inv.lastIsLevel seeded e (List.getLast?_eq_getElem?.trans last)
  · intro phase
    rw [inv.bitsCountFalls phase, fallingAfterFirst_take_eq_range inv.pairIndexBound]

end Sys2Proof.Machine
end

section
/-! The buffers (20_memory.md): what the primitives of R52 and R54 answer where their requirement fails and what an
entry reads as after an append, where CLS_PAIR_FALL stops, and that a window is big-endian (R56, R57). -/

namespace Sys2Proof.Machine

variable {s t : State}

/-! ### Requirements that fail -/

theorem edgeAppend_of_full (ts : Nat) (kind : Bool) (full : s.params.maxEdges ≤ s.edgeCount) :
    edgeAppend s ts kind = .error .edgeBufferFull := if_neg full.not_gt

theorem bitAppend_of_full (b : Bool) (full : bitCap s.params ≤ s.bitCount) :
    bitAppend s b = .error .bitBufferFull := if_neg full.not_gt

theorem edgeRead_of_edgeCount_le {i : Nat} (beyond : s.edgeCount ≤ i) :
    edgeRead s i = .error .edgeHoldsNoValue := by
  rw [edgeRead, List.getElem?_eq_none beyond]

theorem bitRead_of_bitCount_le {j : Nat} (beyond : s.bitCount ≤ j) : bitRead s j = .error .bitHoldsNoValue := by
  rw [bitRead, List.getElem?_eq_none beyond]

/-! ### What an entry reads as -/

/-- An index below EDGE_COUNT holds a value (R26). -/
theorem exists_edgeRead_of_lt {i : Nat} (below : i < s.edgeCount) : ∃ e, edgeRead s i = .ok e :=
  ⟨s.edges[i], edgeRead_eq_ok.mpr (List.getElem?_eq_getElem below)⟩

/-- A read depends on the one entry alone. -/
theorem edgeRead_congr {i : Nat} (same : t.edges[i]? = s.edges[i]?) : edgeRead t i = edgeRead s i := by
  rw [edgeRead, same, edgeRead]

theorem bitRead_congr {j : Nat} (same : t.bits[j]? = s.bits[j]?) : bitRead t j = bitRead s j := by
  rw [bitRead, same, bitRead]

/-- An appended element changes no other place of a list. -/
theorem getElem?_append_singleton_of_ne {α : Type} (l : List α) (a : α) {i : Nat} (other : i ≠ l.length) :
    (l ++ [a])[i]? = l[i]? := by
  obtain below | beyond := Nat.lt_or_gt_of_ne other
  · exact List.getElem?_append_left below
  · rw [List.getElem?_eq_none beyond.le, List.getElem?_eq_none (by simpa using beyond)]

theorem edgeRead_pushEdge_edgeCount (s : State) (ts : Nat) (kind : Bool) :
    edgeRead (s.pushEdge ts kind) s.edgeCount = .ok { ts := fitTs s.params ts, kind := kind } :=
  edgeRead_eq_ok.mpr List.getElem?_concat_length

theorem edgeRead_pushEdge_of_ne (ts : Nat) (kind : Bool) {i : Nat} (other : i ≠ s.edgeCount) :
    edgeRead (s.pushEdge ts kind) i = edgeRead s i :=
  edgeRead_congr (getElem?_append_singleton_of_ne _ _ other)

theorem bitRead_pushBit_bitCount (s : State) (b : Bool) : bitRead (s.pushBit b) s.bitCount = .ok b :=
  bitRead_eq_ok.mpr List.getElem?_concat_length

theorem bitRead_pushBit_of_ne (b : Bool) {j : Nat} (other : j ≠ s.bitCount) :
    bitRead (s.pushBit b) j = bitRead s j :=
  bitRead_congr (getElem?_append_singleton_of_ne _ _ other)

@[simp] theorem edgeCount_pushEdge (s : State) (ts : Nat) (kind : Bool) :
    (s.pushEdge ts kind).edgeCount = s.edgeCount + 1 := List.length_append

@[simp] theorem bitCount_pushBit (s : State) (b : Bool) : (s.pushBit b).bitCount = s.bitCount + 1 :=
  List.length_append

/-- Settles O49: an append with room is the named update, and the rules above say what it reads as. -/
theorem bufferPrimitivesKeepToTheirEntry : Obligations.BufferPrimitivesKeepToTheirEntry := by
  refine ⟨fun s ts kind room fits => ?_, fun _ => edgeAppend_of_full, fun _ _ => edgeRead_of_edgeCount_le,
    fun s b room => ?_, fun _ => bitAppend_of_full, fun _ _ => bitRead_of_bitCount_le⟩
  · have written := edgeRead_pushEdge_edgeCount s ts kind
    rw [fitTs_of_lt fits] at written
    exact ⟨s.pushEdge ts kind, edgeAppend_eq_ok.mpr ⟨room, rfl⟩, written, edgeCount_pushEdge s ts kind,
      fun _ => edgeRead_pushEdge_of_ne ts kind, rfl⟩
  · exact ⟨s.pushBit b, bitAppend_eq_ok.mpr ⟨room, rfl⟩, bitRead_pushBit_bitCount s b, bitCount_pushBit s b,
      fun _ => bitRead_pushBit_of_ne b, rfl⟩

/-! ### Where CLS_PAIR_FALL stops -/

/-- Settles O10: without a pair one of the two reads fails, and with a pair it is the append that can fail. -/
theorem clsPairFallFaultsWithoutItsOperands : Obligations.ClsPairFallFaultsWithoutItsOperands := by
  refine ⟨fun s noPair => ?_, fun s pair full => ?_⟩
  · have noSecond := edgeRead_of_edgeCount_le noPair
    obtain below | beyond := Nat.lt_or_ge s.clsIdx s.edgeCount
    · obtain ⟨first, before⟩ := exists_edgeRead_of_lt below
      simp [exec, execClsPairFall, before, noSecond]
    · simp [exec, execClsPairFall, edgeRead_of_edgeCount_le beyond]
  · obtain ⟨first, before⟩ := exists_edgeRead_of_lt (Nat.lt_of_succ_lt pair)
    obtain ⟨second, there⟩ := exists_edgeRead_of_lt pair
    simp [exec, execClsPairFall, before, there, bitAppend_of_full _ full]

/-! ### Windows -/

/-- R57: `BitRead(k + m) = W[39 - m]`, where the window is whole. -/
theorem bitRead_of_window {k m : Nat} (whole : k + 40 ≤ s.bitCount) (hm : m < 40) :
    bitRead s (k + m) = .ok ((windowOf s.bits k).getLsbD (39 - m)) := by
  have below : k + m < s.bits.length := (Nat.add_lt_add_left hm k).trans_le whole
  rw [bitRead_eq_ok, windowOf_bit _ _ _ hm whole, List.getElem?_eq_getElem below,
    List.getD_eq_getElem _ _ below]

/-- R57, R77: bit `7 - b` of `B_j` is `W[39 - (8j + b)]`. -/
theorem frameByte_bit (w : FrameWord) {j b : Nat} (hj : j < 5) (hb : b < 8) :
    (frameByte w j).getLsbD (7 - b) = w.getLsbD (39 - (8 * j + b)) := by
  have place : 32 - 8 * j + (7 - b) = 39 - (8 * j + b) := by omega
  have inByte : 7 - b < 8 := by omega
  simp [frameByte, inByte, place]

/-- Settles O50: byte `j`'s bit `b` from the top is the window's bit `8j + b` from the top. -/
theorem windowsAreBigEndian : Obligations.WindowsAreBigEndian := by
  refine fun s k whole => ⟨windowOf s.bits k, readWindow_eq_ok.mpr ⟨whole, rfl⟩,
    fun m => bitRead_of_window whole, fun j b hj hb => ?_⟩
  rw [frameByte_bit _ hj hb, Nat.add_assoc]
  exact bitRead_of_window whole (by omega)

end Sys2Proof.Machine
end

section
/-! Progress (R52, R54, R73, R105): the invariants rule out every stop of a step (O29). -/

namespace Sys2Proof.Machine

variable {s u : State}

/-! ### When a step answers -/

/-- RESET needs nothing but a legal configuration (R104, R220). -/
theorem step_of_reset (config : s.params.WellFormed) (reset : s.pins.rst = true) :
    step s = .next s.resetElements.advance := by
  simp only [step, cycleStep, decode_sel, if_pos config, if_pos reset]
  rfl

/-- Without reset, a step answers where its primary operation does and STATUS is no reserved code (R105, X8). -/
theorem step_of_exec_row (config : s.params.WellFormed) (noReset : s.pins.rst = false)
    (legal : s.status.isReserved = false) (run : exec s.row s = .next u) :
    step s = .next (if s.startWhileBusy then u.markViolation else u).advance := by
  simp only [step, cycleStep, decode_sel, if_pos config, noReset, legal, Bool.false_eq_true, if_false]
  cases s.startWhileBusy with
  | false => rw [runSelection, run]; rfl
  | true => rw [runSelection, run]; rfl

/-! ### The buffers have room for what a row appends -/

/-- With the bit of a falling pair the invariants still hold, so there was a place for it (R38 (a), R143). -/
theorem AttemptInv.room_for_bit (inv : AttemptInv s) (phase : s.phase = .classify) {second : EdgeEvent}
    (there : s.edges[s.clsIdx + 1]? = some second) (falling : second.kind = false) :
    s.bitCount < bitCap s.params := by
  obtain ⟨bits, edges⟩ := (attemptInv_pushBit_nextPair inv phase there falling false).bitsFit
  calc s.bitCount + 1 = (s.pushBit false).nextPair.bitCount := (bitCount_pushBit s false).symm
    _ ≤ bitCap s.params := bits.trans edges

/-! ### Every row -/

/-- The primary row that the conditions select has its operands: an edge buffer with room during CAPTURE, both edges of
a pair that is there, room for the pair's bit, and a whole window. -/
theorem AttemptInv.exec_row_completes (inv : AttemptInv s) : ∃ u, exec s.row s = .next u := by
  cases phase : s.phase <;> simp only [State.row, rowOfConditions, phase]
  case idle =>
    split_ifs
    · exact ⟨_, rfl⟩
    · exact ⟨_, rfl⟩
  case capture =>
    split_ifs
    · exact ⟨_, rfl⟩
    · obtain ⟨-, room⟩ := inv.captureOpen phase
      exact ⟨_, exec_capEdge_eq_next.mpr ⟨room, rfl⟩⟩
    · exact ⟨_, rfl⟩
    · exact ⟨_, rfl⟩
  case classify =>
    split_ifs with avail falling
    · obtain ⟨second, there⟩ := pairAvail_iff.mp avail
      obtain ⟨-, pair⟩ := inv.clsIdx_nextPair there
      obtain ⟨first, before⟩ := exists_edgeRead_of_lt (Nat.lt_of_succ_lt pair)
      have room := inv.room_for_bit phase there (by simpa [secondFalling_of_getElem there] using falling)
      exact ⟨_, exec_clsPairFall_eq_next.mpr ⟨first, second, before, edgeRead_eq_ok.mpr there, room, rfl⟩⟩
    · exact ⟨_, rfl⟩
    · exact ⟨_, rfl⟩
  case decode =>
    split_ifs with short avail
    · exact ⟨_, rfl⟩
    · exact ⟨_, exec_decMatch_eq_next.mpr ⟨_, readWindow_eq_ok.mpr ⟨winAvail_iff.mp avail, rfl⟩, rfl⟩⟩
    · exact ⟨_, exec_decMismatch_eq_next.mpr ⟨_, readWindow_eq_ok.mpr ⟨winAvail_iff.mp avail, rfl⟩, rfl⟩⟩
    · exact ⟨_, rfl⟩

/-- Settles O29: the configuration is legal, a reset always completes, and without one STATUS is no reserved code and
the selected row has its operands. -/
theorem invariantStatesNeverStop : Obligations.InvariantStatesNeverStop := by
  intro s inv
  cases reset : s.pins.rst with
  | true => exact ⟨_, step_of_reset inv.config reset⟩
  | false =>
    obtain ⟨u, run⟩ := inv.exec_row_completes
    exact ⟨_, step_of_exec_row inv.config reset inv.statusLegal run⟩

end Sys2Proof.Machine
end

section
/-! The decoder (30_encoding.md): what it means that a row applies, that the primary rows split the words without
RESET's bit, and what `decode` answers (R80 to R83, R105). -/

namespace Sys2Proof

variable {i j : Instr} {w : SelWord} {side : Bool}

/-! ### A row and the words it applies to -/

theorem applies_iff : i.applies w = true ↔ w &&& i.mask = i.matchBits := beq_iff_eq

/-- Where its row tests a bit, a word has the row's match bit (R83). -/
theorem getLsbD_of_applies (applies : i.applies w = true) {b : Nat} (tested : i.mask.getLsbD b = true) :
    w.getLsbD b = i.matchBits.getLsbD b := by
  rw [← applies_iff.mp applies, BitVec.getLsbD_and, tested, Bool.and_true]

/-- RESET's row tests bit 12 alone. -/
theorem reset_applies (w : SelWord) : Instr.reset.applies w = w.getLsbD 12 := by
  have tested : w &&& Instr.reset.mask = if w.getLsbD 12 then Instr.reset.matchBits else 0#13 :=
    BitVec.and_twoPow w 12
  rw [Instr.applies, tested]
  cases w.getLsbD 12 <;> rfl

/-- Every row but RESET's applies only where bit 12 is 0. -/
theorem noReset_of_applies (other : i ≠ .reset) (applies : i.applies w = true) : w.getLsbD 12 = false := by
  have constants : i.mask.getLsbD 12 = true ∧ i.matchBits.getLsbD 12 = false := by
    revert other; cases i <;> decide
  obtain ⟨tested, clear⟩ := constants
  rw [getLsbD_of_applies applies tested, clear]

/-- Every row applies to each of its own words (R83). -/
theorem applies_encodeWith (i : Instr) (other : SelWord) : i.applies (i.encodeWith other) = true := by
  have accepts : Laws.RowAccepts.Statement i := by
    cases i with
    | reset => exact Laws.RowAccepts.reset
    | start => exact Laws.RowAccepts.start
    | idleHold => exact Laws.RowAccepts.idleHold
    | busyStart => exact Laws.RowAccepts.busyStart
    | capAbort => exact Laws.RowAccepts.capAbort
    | capSeed => exact Laws.RowAccepts.capSeed
    | capEdge => exact Laws.RowAccepts.capEdge
    | capSame => exact Laws.RowAccepts.capSame
    | clsPairFall => exact Laws.RowAccepts.clsPairFall
    | clsPairRise => exact Laws.RowAccepts.clsPairRise
    | clsEnd => exact Laws.RowAccepts.clsEnd
    | decInsuf => exact Laws.RowAccepts.decInsuf
    | decExhaust => exact Laws.RowAccepts.decExhaust
    | decMatch => exact Laws.RowAccepts.decMatch
    | decMismatch => exact Laws.RowAccepts.decMismatch
  exact accepts.2 other

/-! ### The primary rows -/

theorem mem_primaryRows : i ∈ primaryRows ↔ i.rowClass = .primary := by cases i <;> decide

/-- Two primary rows differ in a bit that both test. -/
theorem eq_of_constants_agree :
    ∀ i ∈ primaryRows, ∀ j ∈ primaryRows, i.matchBits &&& j.mask = j.matchBits &&& i.mask → i = j := by decide

/-- R82: the primary rows are disjoint. -/
theorem eq_of_applies (hi : i.rowClass = .primary) (hj : j.rowClass = .primary) (iApplies : i.applies w = true)
    (jApplies : j.applies w = true) : i = j := by
  apply eq_of_constants_agree i (mem_primaryRows.mpr hi) j (mem_primaryRows.mpr hj)
  calc i.matchBits &&& j.mask = w &&& i.mask &&& j.mask := by rw [applies_iff.mp iApplies]
    _ = w &&& j.mask &&& i.mask := by ac_rfl
    _ = j.matchBits &&& i.mask := by rw [applies_iff.mp jApplies]

/-- Bit 11 is BUSY_START's: no primary row tests it (R83). -/
theorem primaryRows_ignore_busyStart :
    ∀ i ∈ primaryRows, i.mask.getLsbD 11 = false ∧ i.matchBits.getLsbD 11 = false := by decide

/-! ### Every word is formed from conditions -/

/-- The phase that a word's bits 1:0 name (R72, R80). -/
def phaseOfWord (w : SelWord) : Machine.Phase :=
  match w.getLsbD 1, w.getLsbD 0 with
  | false, false => .idle
  | false, true => .capture
  | true, false => .classify
  | true, true => .decode

theorem code_phaseOfWord (w : SelWord) : (phaseOfWord w).code = w.extractLsb' 0 2 := by
  have bits : w.extractLsb' 0 2 = BitVec.ofBool (w.getLsbD 1) ++ BitVec.ofBool (w.getLsbD 0) := by
    apply BitVec.eq_of_getLsbD_eq
    intro b hb
    simp only [BitVec.getLsbD_append, BitVec.getLsbD_ofBool]
    interval_cases b <;> simp
  rw [bits, phaseOfWord]
  cases w.getLsbD 1 <;> cases w.getLsbD 0 <;> rfl

/-- A word is the selector of the conditions that its own bits say. -/
theorem selWord_of_bits (w : SelWord) :
    Machine.selWord (w.getLsbD 12) (w.getLsbD 11) (w.getLsbD 10) (w.getLsbD 9) (w.getLsbD 8) (w.getLsbD 7)
      (w.getLsbD 6) (w.getLsbD 5) (w.getLsbD 4) (w.getLsbD 3) (w.getLsbD 2) (phaseOfWord w) = w := by
  apply BitVec.eq_of_getLsbD_eq
  intro b hb
  simp only [Machine.selWord, BitVec.getLsbD_append, BitVec.getLsbD_ofBool, code_phaseOfWord]
  interval_cases b <;> simp

/-! ### What `decode` answers -/

theorem decode_total (w : SelWord) :
    ∃ i, decode w = .ok (if w.getLsbD 12 then .override else .run i (w.getLsbD 11)) := by
  have formed := Machine.decode_selWord (w.getLsbD 12) (w.getLsbD 11) (w.getLsbD 10) (w.getLsbD 9) (w.getLsbD 8)
    (w.getLsbD 7) (w.getLsbD 6) (w.getLsbD 5) (w.getLsbD 4) (w.getLsbD 3) (w.getLsbD 2) (phaseOfWord w)
  rw [selWord_of_bits] at formed
  exact ⟨_, formed⟩

/-- A decoded primary row is one, and it applies (R81). -/
theorem applies_of_decode (decoded : decode w = .ok (.run i side)) :
    i.rowClass = .primary ∧ i.applies w = true := by
  unfold decode decodePrimary at decoded
  split at decoded
  · cases decoded
  · split at decoded
    next found =>
      cases decoded
      exact ⟨mem_primaryRows.mp (List.mem_of_find?_eq_some found), by simpa using List.find?_some found⟩
    next => cases decoded

/-- R80: RESET overrides the rest of the word. -/
theorem decode_of_reset (reset : w.getLsbD 12 = true) : decode w = .ok .override :=
  if_pos ((reset_applies w).trans reset)

/-- R81, R82: a word without RESET's bit decodes to a primary row, with BUSY_START where bit 11 says so. -/
theorem decode_of_noReset (noReset : w.getLsbD 12 = false) :
    ∃ i, i.rowClass = .primary ∧ i.applies w = true ∧ decode w = .ok (.run i (w.getLsbD 11)) := by
  obtain ⟨i, decoded⟩ := decode_total w
  rw [noReset, if_neg Bool.false_ne_true] at decoded
  obtain ⟨primary, applies⟩ := applies_of_decode decoded
  exact ⟨i, primary, applies, decoded⟩

/-- A word that a primary row applies to decodes to that row. -/
theorem decode_of_applies (primary : i.rowClass = .primary) (applies : i.applies w = true) :
    decode w = .ok (.run i (w.getLsbD 11)) := by
  have noReset := noReset_of_applies (by rintro rfl; cases primary) applies
  obtain ⟨j, jPrimary, jApplies, decoded⟩ := decode_of_noReset noReset
  rw [decoded, eq_of_applies primary jPrimary applies jApplies]

/-! ### Decoding an encoding -/

/-- Whatever the bits that a primary row ignores, its word decodes to it, with BUSY_START where bit 11 says so. -/
theorem decode_encodeWith (primary : i.rowClass = .primary) (other : SelWord) :
    decode (i.encodeWith other) = .ok (.run i (other.getLsbD 11)) := by
  obtain ⟨untested, clear⟩ := primaryRows_ignore_busyStart i (mem_primaryRows.mpr primary)
  have side : (i.encodeWith other).getLsbD 11 = other.getLsbD 11 := by
    simp only [Instr.encodeWith, BitVec.getLsbD_or, BitVec.getLsbD_and, BitVec.getLsbD_not, untested, clear]
    simp
  rw [decode_of_applies primary (applies_encodeWith i other), side]

/-- Only the rows of IDLE test the start bit, so a selection's word is its primary row's with ignored bits set. -/
theorem encode_run_of_wellFormed (wf : (Selection.run i side).WellFormed) :
    (Selection.run i side).encode = i.encodeWith (if side then 0x0804#13 else 0#13) := by
  obtain ⟨primary, busy⟩ := wf
  cases side with
  | false => simp [Selection.encode, Instr.encodeWith]
  | true =>
    have ignored : 0x0804#13 &&& ~~~i.mask = 0x0804#13 := by
      have notIdle := busy rfl
      revert notIdle primary
      cases i <;> decide
    simp [Selection.encode, Instr.encodeWith, ignored]

theorem decode_encode {sel : Selection} (wf : sel.WellFormed) : decode sel.encode = .ok sel := by
  cases sel with
  | override => exact decode_of_reset rfl
  | run i side =>
    rw [encode_run_of_wellFormed wf, decode_encodeWith wf.1]
    cases side <;> rfl

/-- BUSY_START applies beside whichever primary row the other bits say. -/
theorem decode_busyStart_encodeWith (other : SelWord) :
    ∃ i, decode (Instr.busyStart.encodeWith other) = .ok (.run i true) := by
  have applies := applies_encodeWith .busyStart other
  obtain ⟨i, -, -, decoded⟩ := decode_of_noReset (noReset_of_applies (by decide) applies)
  have side : (Instr.busyStart.encodeWith other).getLsbD 11 = true := getLsbD_of_applies applies rfl
  exact ⟨i, side ▸ decoded⟩

/-- Settles O20: an encoding's row applies to it, and the row that applies is the one decoded. A row's own word is a
closed word, so its one-row reading is computed. -/
theorem decodeReadsBackEveryRow : Obligations.DecodeReadsBackEveryRow := by
  refine ⟨fun _ => decode_encode, fun i => ?_, fun _ other primary => decode_encodeWith primary other,
    fun other => ?_, decode_busyStart_encodeWith⟩
  · cases i <;> rfl
  · exact decode_of_reset ((reset_applies _).symm.trans (applies_encodeWith .reset other))

/-- Settles O19: RESET is the only row that applies where bit 12 is 1; elsewhere the decoded row is the one. -/
theorem everySelectorMatchesOneRow : Obligations.EverySelectorMatchesOneRow := by
  refine fun w => ⟨fun reset => ⟨(reset_applies w).trans reset, fun i applies => ?_⟩, fun noReset => ?_⟩
  · by_contra other
    exact Bool.false_ne_true ((noReset_of_applies other applies).symm.trans reset)
  · obtain ⟨i, primary, applies, -⟩ := decode_of_noReset noReset
    exact ⟨i, ⟨primary, applies⟩, fun j jPrimary jApplies => eq_of_applies jPrimary primary jApplies applies⟩

/-- Settles O22: in each word the named row's constants are found, and bit 11 is BUSY_START's. -/
theorem writtenWordsDecode : Obligations.WrittenWordsDecode :=
  ⟨decode_of_reset rfl, decode_of_applies rfl rfl, decode_of_applies rfl rfl, decode_of_applies rfl rfl,
    decode_of_applies rfl rfl, decode_of_applies rfl rfl, decode_of_applies rfl rfl, decode_of_applies rfl rfl,
    decode_of_applies rfl rfl, decode_of_applies rfl rfl, decode_of_applies rfl rfl, decode_of_applies rfl rfl,
    decode_of_applies rfl rfl, decode_of_applies rfl rfl⟩

/-- Only a word of phase IDLE matches a row of IDLE. -/
theorem phase_bits_of_idleRow (idleRow : i.isIdleRow = true) (applies : i.applies w = true) :
    w.getLsbD 0 = false ∧ w.getLsbD 1 = false := by
  cases i with
  | start | idleHold => exact ⟨getLsbD_of_applies applies rfl, getLsbD_of_applies applies rfl⟩
  | _ => cases idleRow

/-- In a formable word bit 11 is 0 in phase IDLE, so BUSY_START never stands beside a row of IDLE (R80). -/
theorem decode_of_formable (formable : SelWord.Formable w) : ∃ sel, decode w = .ok sel ∧ sel.WellFormed := by
  cases reset : w.getLsbD 12 with
  | true => exact ⟨.override, decode_of_reset reset, trivial⟩
  | false =>
    obtain ⟨i, primary, applies, decoded⟩ := decode_of_noReset reset
    refine ⟨_, decoded, primary, fun busy => ?_⟩
    obtain ⟨busyBit, -⟩ := formable
    by_contra idleRow
    obtain ⟨bit0, bit1⟩ := phase_bits_of_idleRow (by simpa using idleRow) applies
    rw [busyBit, bit0, bit1, Bool.or_false, Bool.and_false] at busy
    cases busy

end Sys2Proof
end

section
/-! The selector of a state (30_encoding.md): its bits are the conditions of R80, it is formable, and R82 names its
row. -/

namespace Sys2Proof.Machine

variable {s : State}

/-! ### The bits of a selector -/

/-- R80: each condition stands at its bit. -/
theorem selWord_bits {w : SelWord} {rst bs ck wa sh sf pa ch hl le st : Bool} {ph : Phase}
    (formed : w = selWord rst bs ck wa sh sf pa ch hl le st ph) :
    w.extractLsb' 0 2 = ph.code ∧ w.getLsbD 2 = st ∧ w.getLsbD 3 = le ∧ w.getLsbD 4 = hl ∧ w.getLsbD 5 = ch ∧
      w.getLsbD 6 = pa ∧ w.getLsbD 7 = sf ∧ w.getLsbD 8 = sh ∧ w.getLsbD 9 = wa ∧ w.getLsbD 10 = ck ∧
      w.getLsbD 11 = bs ∧ w.getLsbD 12 = rst := by
  subst formed
  refine ⟨BitVec.extractLsb'_append_eq_right, ?_⟩
  simp only [selWord, BitVec.getLsbD_append, BitVec.getLsbD_ofBool]
  simp

/-- SEL bit 7 is guarded by bit 6, so it is 1 only at a pair that is there (R80). -/
theorem secondFalling_iff : s.secondFalling = true ↔ ∃ e, s.edges[s.clsIdx + 1]? = some e ∧ e.kind = false := by
  constructor
  · intro falling
    obtain ⟨avail, -⟩ := Bool.and_eq_true_iff.mp falling
    obtain ⟨second, there⟩ := pairAvail_iff.mp avail
    rw [secondFalling_of_getElem there] at falling
    exact ⟨second, there, by simpa using falling⟩
  · rintro ⟨second, there, falling⟩
    rw [secondFalling_of_getElem there, falling]
    rfl

/-- SEL bit 10 is guarded by bit 9, so it is 1 only at a whole window (R80). -/
theorem windowOk_iff : s.windowOk = true ↔ ∃ w, readWindow s s.winOff = .ok w ∧ checksumOk w = true := by
  constructor
  · intro valid
    obtain ⟨avail, -⟩ := Bool.and_eq_true_iff.mp valid
    have whole := winAvail_iff.mp avail
    rw [windowOk_of_whole whole] at valid
    exact ⟨_, readWindow_eq_ok.mpr ⟨whole, rfl⟩, valid⟩
  · rintro ⟨w, read, valid⟩
    obtain ⟨whole, rfl⟩ := readWindow_eq_ok.mp read
    rwa [windowOk_of_whole whole]

theorem startWhileBusy_eq (s : State) : s.startWhileBusy = (s.pins.start && decide (s.phase ≠ .idle)) := by
  rw [State.startWhileBusy, busyFlag_eq]

/-- Settles O17: SEL is the word of the state's conditions, and bits 7 and 10 hold only where their guards do. -/
theorem selectorBitsAreTheConditions : Obligations.SelectorBitsAreTheConditions := by
  intro s
  obtain ⟨phase, start, lineErr, haveLast, changed, pairAvail, secondFalling, short, winAvail, ckOk, busyStart,
    rst⟩ := selWord_bits (w := s.sel) rfl
  exact ⟨phase, start, lineErr, haveLast, changed, pairAvail, secondFalling ▸ secondFalling_iff, short, winAvail,
    ckOk ▸ windowOk_iff, busyStart.trans (startWhileBusy_eq s), rst⟩

/-- The phase field is 00 in IDLE alone (R72). -/
theorem phase_ne_idle_eq_bits (s : State) :
    decide (s.phase ≠ .idle) = (s.sel.getLsbD 0 || s.sel.getLsbD 1) := by
  obtain ⟨phase, -⟩ := selectorBitsAreTheConditions s
  have bit (b : Nat) (hb : b < 2) : s.sel.getLsbD b = s.phase.code.getLsbD b := by
    rw [← phase, BitVec.getLsbD_extractLsb', Nat.zero_add, decide_eq_true hb, Bool.true_and]
  rw [bit 0 Nat.two_pos, bit 1 Nat.one_lt_two]
  cases s.phase <;> rfl

/-- The bits that R80 guards are 0 where their guards are, and a whole window leaves no short sequence. -/
theorem sel_formable (s : State) : SelWord.Formable s.sel := by
  obtain ⟨-, start, -, -, -, pairAvail, secondFalling, short, winAvail, ckOk, busyStart, -⟩ :=
    selectorBitsAreTheConditions s
  refine ⟨by rw [busyStart, start, phase_ne_idle_eq_bits], fun falling => ?_, fun valid => ?_, fun whole => ?_⟩
  · obtain ⟨second, there, -⟩ := secondFalling.mp falling
    exact pairAvail.trans (pairAvail_iff.mpr ⟨second, there⟩)
  · obtain ⟨w, read, -⟩ := ckOk.mp valid
    exact winAvail.trans (decide_eq_true (readWindow_eq_ok.mp read).1)
  · rw [winAvail, decide_eq_true_iff] at whole
    rw [short, decide_eq_false_iff_not]
    omega

/-- Settles O21: the guards of R80 make a state's word formable, and bit 11's keeps BUSY_START out of IDLE. -/
theorem formedSelectorsDecodeWellFormed : Obligations.FormedSelectorsDecodeWellFormed :=
  ⟨sel_formable, fun _ => decode_of_formable⟩

/-! ### The row of each phase -/

theorem row_of_idle (phase : s.phase = .idle) : s.row = if s.pins.start then .start else .idleHold := by
  rw [State.row, phase, rowOfConditions]

theorem row_of_capture (phase : s.phase = .capture) :
    s.row = if s.pins.lineErr then .capAbort
      else if s.haveLast then if s.changed then .capEdge else .capSame else .capSeed := by
  rw [State.row, phase, rowOfConditions]

theorem row_of_classify (phase : s.phase = .classify) :
    s.row = if s.pairAvail then if s.secondFalling then .clsPairFall else .clsPairRise else .clsEnd := by
  rw [State.row, phase, rowOfConditions]

theorem row_of_decode (phase : s.phase = .decode) :
    s.row = if s.tooFewBits then .decInsuf
      else if s.winAvail then if s.windowOk then .decMatch else .decMismatch else .decExhaust := by
  rw [State.row, phase, rowOfConditions]

/-- Outside reset the selector decodes to the row of the state's conditions. -/
theorem decode_sel_of_noReset (noReset : s.pins.rst = false) :
    Sys2Proof.decode s.sel = .ok (.run s.row s.startWhileBusy) := by
  rw [decode_sel, noReset, if_neg Bool.false_ne_true]

/-- In IDLE a START is accepted, not a violation (R102). -/
theorem decode_sel_of_idle (noReset : s.pins.rst = false) (phase : s.phase = .idle) :
    Sys2Proof.decode s.sel = .ok (.run s.row false) := by
  rw [decode_sel_of_noReset noReset, startWhileBusy_eq, phase]
  simp

/-- In an attempt every START is a violation (R102). -/
theorem decode_sel_of_busy (noReset : s.pins.rst = false) (phase : s.phase ≠ .idle) :
    Sys2Proof.decode s.sel = .ok (.run s.row s.pins.start) := by
  rw [decode_sel_of_noReset noReset, startWhileBusy_eq, decide_eq_true phase, Bool.and_true]

/-- Settles O18: the row of each phase, under each clause's conditions. -/
theorem selectorSplitsEveryPhase : Obligations.SelectorSplitsEveryPhase := by
  refine fun s => ⟨fun reset => by rw [decode_sel, if_pos reset], fun noReset =>
    ⟨fun phase => ?idle, fun phase => ?capture, fun phase => ?classify, fun phase => ?decode⟩⟩
  case idle =>
    rw [decode_sel_of_idle noReset phase, row_of_idle phase]
    exact ⟨fun start => by rw [if_pos start], fun noStart => by rw [noStart]; rfl⟩
  case capture =>
    rw [decode_sel_of_busy noReset (by rw [phase]; decide), row_of_capture phase]
    refine ⟨fun failed => ?_, fun read unseeded => ?_, fun read seeded edge => ?_, fun read seeded same => ?_⟩
    · rw [if_pos failed]
    · simp [read, unseeded]
    · simp [read, seeded, changed_iff.mpr edge]
    · simp [read, seeded, State.changed, same]
  case classify =>
    rw [decode_sel_of_busy noReset (by rw [phase]; decide), row_of_classify phase]
    refine ⟨fun done => ?_, fun second there falling => ?_, fun second there rising => ?_⟩
    · have noPair : s.pairAvail = false := decide_eq_false done.not_gt
      simp [noPair]
    · simp [pairAvail_iff.mpr ⟨second, there⟩, secondFalling_of_getElem there, falling]
    · simp [pairAvail_iff.mpr ⟨second, there⟩, secondFalling_of_getElem there, rising]
  case decode =>
    have enough (h : 40 ≤ s.bitCount) : s.tooFewBits = false := decide_eq_false h.not_gt
    rw [decode_sel_of_busy noReset (by rw [phase]; decide), row_of_decode phase]
    refine ⟨fun short => ?_, fun long none => ?_, fun whole valid => ?_, fun whole invalid => ?_⟩
    · rw [if_pos (tooFewBits_iff.mpr short)]
    · have noWindow : s.winAvail = false := decide_eq_false none.not_ge
      simp [enough long, noWindow]
    · simp [enough (by omega), winAvail_iff.mpr whole, windowOk_of_whole whole, valid]
    · simp [enough (by omega), winAvail_iff.mpr whole, windowOk_of_whole whole, invalid]

/-! ### A step by its selector -/

/-- R105: the step without the decoder: RESET, or the row of the conditions with BUSY_START beside it. -/
theorem step_of_wellFormed (config : s.params.WellFormed) :
    step s = if s.pins.rst then .next s.resetElements.advance
      else if s.status.isReserved then .fault .reservedStatus
      else andThen (runSelection (.run s.row s.startWhileBusy) s) (fun t => .next t.advance) := by
  rw [step, cycleStep, if_pos config, decode_sel]
  cases s.pins.rst <;> rfl

/-- Settles O26: without reset the two reserved codes are tested before anything runs. -/
theorem reservedStatusFaults : Obligations.ReservedStatusFaults := by
  intro s config noReset code
  have reserved : s.status.isReserved = true := by
    obtain six | seven := code
    · rw [six]; rfl
    · rw [seven]; rfl
  rw [step_of_wellFormed config, noReset, if_neg Bool.false_ne_true, if_pos reserved]

/-! ### The coming input word -/

@[simp] theorem pins_presenting (s : State) (w : InWord) : (s.presenting w).pins = Pins.ofWord w := rfl

theorem captureTail_presenting (s : State) (w : InWord) :
    captureTail (s.presenting w) = (captureTail s).presenting w := by
  rw [captureTail, captureTail, apply_ite (State.presenting · w)]
  rfl

theorem bitAppend_presenting (s : State) (w : InWord) (b : Bool) :
    bitAppend (s.presenting w) b = (bitAppend s b).map (State.presenting · w) := by
  rw [bitAppend, bitAppend, apply_ite (Except.map (State.presenting · w))]
  rfl

/-- An operation that does not sample the line reads nothing of the coming input word, and leaves it for the edge to
consume. -/
theorem exec_presenting {i : Instr} (notSeed : i ≠ .capSeed) (notEdge : i ≠ .capEdge) (s : State) (w : InWord) :
    exec i (s.presenting w) = andThen (exec i s) (fun t => .next (t.presenting w)) := by
  cases i with
  | capSeed => exact absurd rfl notSeed
  | capEdge => exact absurd rfl notEdge
  | reset | start | idleHold | busyStart | capAbort | clsPairRise | clsEnd | decInsuf | decExhaust => rfl
  | capSame => exact congrArg _ (captureTail_presenting s w)
  | clsPairFall =>
    have reads (k : Nat) : edgeRead (s.presenting w) k = edgeRead s k := rfl
    simp only [exec, execClsPairFall, show (s.presenting w).clsIdx = s.clsIdx from rfl, reads]
    cases edgeRead s s.clsIdx with
    | error f => rfl
    | ok first =>
      cases edgeRead s (s.clsIdx + 1) with
      | error f => rfl
      | ok second =>
        simp only [bitAppend_presenting, show (s.presenting w).params = s.params from rfl]
        cases bitAppend s (pulseBit s.params (pulseDuration first second)) <;> rfl
  | decMatch | decMismatch =>
    have read : readWindow (s.presenting w) (s.presenting w).winOff = readWindow s s.winOff := rfl
    simp only [exec, execDecMatch, execDecMismatch, read]
    cases readWindow s s.winOff with
    | error f => rfl
    | ok window => rfl

/-- The edge consumes the input word, so a cycle whose primary row does not sample the line depends on the word only
through what it selects. -/
theorem runSelection_presenting {i : Instr} (notSeed : i ≠ .capSeed) (notEdge : i ≠ .capEdge) (side : Bool)
    (s : State) (w : InWord) :
    andThen (runSelection (.run i side) (s.presenting w)) (fun t => .next t.advance) =
      andThen (runSelection (.run i side) s) (fun t => .next t.advance) := by
  cases side with
  | false =>
    simp only [runSelection, exec_presenting notSeed notEdge]
    cases exec i s <;> rfl
  | true =>
    simp only [runSelection, exec_presenting notSeed notEdge]
    cases exec i s <;> rfl

/-- Only rows of CAPTURE sample the line (R82). -/
theorem row_ne_of_not_capture (phase : s.phase ≠ .capture) : s.row ≠ .capSeed ∧ s.row ≠ .capEdge := by
  cases code : s.phase with
  | idle => rw [row_of_idle code]; split_ifs <;> decide
  | capture => exact absurd code phase
  | classify => rw [row_of_classify code]; split_ifs <;> decide
  | decode => rw [row_of_decode code]; split_ifs <;> decide

/-- Outside CAPTURE the row depends on no input but `start` (R82). -/
theorem row_presenting_congr (phase : s.phase ≠ .capture) {w w' : InWord}
    (start : (Pins.ofWord w).start = (Pins.ofWord w').start) : (s.presenting w).row = (s.presenting w').row := by
  cases code : s.phase with
  | idle =>
    rw [row_of_idle (s := s.presenting w) code, row_of_idle (s := s.presenting w') code, pins_presenting,
      pins_presenting, start]
  | capture => exact absurd code phase
  | classify => rw [row_of_classify (s := s.presenting w) code, row_of_classify (s := s.presenting w') code]; rfl
  | decode => rw [row_of_decode (s := s.presenting w) code, row_of_decode (s := s.presenting w') code]; rfl

/-- Settles O40: the two words select the same operations, which do not sample the line. -/
theorem lineInputsMatterOnlyInCapture : Obligations.LineInputsMatterOnlyInCapture := by
  intro s w w' phase rst start
  by_cases config : s.params.WellFormed
  · have row := row_presenting_congr phase start
    have side : (s.presenting w).startWhileBusy = (s.presenting w').startWhileBusy := by
      rw [startWhileBusy_eq, startWhileBusy_eq, pins_presenting, pins_presenting, start]; rfl
    obtain ⟨notSeed, notEdge⟩ := row_ne_of_not_capture (s := s.presenting w') phase
    rw [step_of_wellFormed (s := s.presenting w) config, step_of_wellFormed (s := s.presenting w') config, row, side,
      pins_presenting, pins_presenting, rst, runSelection_presenting notSeed notEdge,
      runSelection_presenting notSeed notEdge]
    rfl
  · rw [step_of_not_wellFormed (s := s.presenting w) config, step_of_not_wellFormed (s := s.presenting w') config]

end Sys2Proof.Machine
end

section
/-! Windows, ports and input words (20_memory.md, 30_encoding.md): the fields of a window as numbers (R58, R77), and
what the status word, the inspection ports and the input word show (R71, R78, R79, R85). -/

namespace Sys2Proof.Machine

/-! ### The fields of a window -/

/-- A concatenation read as a number: the left part counts the right part's range. -/
theorem toNat_append_eq {m n : Nat} (x : BitVec m) (y : BitVec n) : (x ++ y).toNat = 2 ^ n * x.toNat + y.toNat := by
  rw [BitVec.toNat_append, ← Nat.shiftLeft_add_eq_or_of_lt y.isLt, Nat.shiftLeft_eq, Nat.mul_comm]

/-- `ck_ok` compares numbers, the last byte being the window modulo 256 (R77). -/
theorem checksumOk_iff (w : FrameWord) : checksumOk w = true ↔ (sum8 w).toNat = w.toNat % 256 := by
  have last : (frameByte w 4).toNat = w.toNat % 256 := BitVec.extractLsb'_toNat 0 8 w
  rw [checksumOk, beq_iff_eq, ← BitVec.toNat_inj, last]

theorem sum8_toNat (w : FrameWord) :
    (sum8 w).toNat =
      ((frameByte w 0).toNat + (frameByte w 1).toNat + (frameByte w 2).toNat + (frameByte w 3).toNat) % 256 := by
  simp [sum8, BitVec.toNat_add]

theorem tempSignOf_iff (w : FrameWord) : tempSignOf w = true ↔ 128 ≤ (frameByte w 2).toNat := by
  rw [tempSignOf, show 7 = 8 - 1 from rfl, BitVec.getLsbD_last, decide_eq_true_iff]

theorem tempMagnitudeOf_toNat (w : FrameWord) :
    (tempMagnitudeOf w).toNat = 256 * ((frameByte w 2).toNat % 128) + (frameByte w 3).toNat := by
  rw [tempMagnitudeOf, toNat_append_eq, BitVec.extractLsb'_toNat, Nat.shiftRight_zero]
  rfl

/-- A magnitude of 15 bits has the same value, and the negated one its exact negative, in 16 bits (R77, R166). -/
theorem temperatureOf_toInt (w : FrameWord) :
    (temperatureOf w).toInt =
      if tempSignOf w then -((tempMagnitudeOf w).toNat : Int) else ((tempMagnitudeOf w).toNat : Int) := by
  have same : ((tempMagnitudeOf w).zeroExtend 16).toNat = (tempMagnitudeOf w).toNat :=
    BitVec.toNat_setWidth_of_le (by decide)
  have nonnegative : ((tempMagnitudeOf w).zeroExtend 16).msb = false := by
    rw [BitVec.msb_eq_decide, same, decide_eq_false_iff_not, Nat.not_le]
    exact (tempMagnitudeOf w).isLt
  have value : ((tempMagnitudeOf w).zeroExtend 16).toInt = (tempMagnitudeOf w).toNat := by
    rw [BitVec.toInt_eq_toNat_of_msb nonnegative, same]
  rw [temperatureOf]
  split
  · rw [BitVec.toInt_neg_eq_of_msb nonnegative, value]
  · exact value

/-- Settles O51: the bytes of each field as one number. -/
theorem windowFieldsAreExact : Obligations.WindowFieldsAreExact :=
  fun w => ⟨sum8_toNat w, checksumOk_iff w, toNat_append_eq _ _, tempSignOf_iff w, tempMagnitudeOf_toNat w,
    temperatureOf_toInt w⟩

/-! ### The outputs -/

/-- Settles O41: every port is read from the state elements (R71), so the words to come are in none. -/
theorem outputsIgnoreTheInputs : Obligations.OutputsIgnoreTheInputs := fun _ _ _ _ => rfl

/-- Settles O56: R78 puts the fields side by side, PHASE lowest. -/
theorem statusWordShowsItsFields : Obligations.StatusWordShowsItsFields := by
  refine ⟨fun p inputs => ?reset, fun s => ⟨BitVec.extractLsb'_append_eq_right, ?status, ?flags⟩⟩
  case reset =>
    simp [State.statusWord, State.busyFlag, Status.code, Phase.code]
  case status =>
    rw [State.statusWord, BitVec.extractLsb'_append_eq_of_le (by decide)]
    exact BitVec.extractLsb'_append_eq_right
  case flags =>
    rw [← busyFlag_eq]
    simp only [State.statusWord, BitVec.getLsbD_append, BitVec.getLsbD_ofBool]
    simp

/-! ### The inspection ports -/

theorem inspectEdge_valid (s : State) (i : Nat) : (s.inspectEdge i).1 = decide (i < s.edgeCount) := by
  obtain below | beyond := Nat.lt_or_ge i s.edgeCount
  · obtain ⟨e, read⟩ := exists_edgeRead_of_lt below
    simp [State.inspectEdge, read, below]
  · simp [State.inspectEdge, edgeRead_of_edgeCount_le beyond, beyond.not_gt]

theorem inspectBit_valid (s : State) (j : Nat) : (s.inspectBit j).1 = decide (j < s.bitCount) := by
  obtain below | beyond := Nat.lt_or_ge j s.bitCount
  · have read := bitRead_eq_ok.mpr (List.getElem?_eq_getElem below)
    simp [State.inspectBit, read, below]
  · simp [State.inspectBit, bitRead_of_bitCount_le beyond, beyond.not_gt]

/-- At an entry that holds a value the port is valid and shows it (R79). -/
theorem inspectEdge_of_getElem {s : State} {i : Nat} {e : EdgeEvent} (there : s.edges[i]? = some e) :
    s.inspectEdge i = (true, e.ts, e.kind) := by
  rw [State.inspectEdge, edgeRead_eq_ok.mpr there]

theorem inspectBit_of_getElem {s : State} {j : Nat} {b : Bool} (there : s.bits[j]? = some b) :
    s.inspectBit j = (true, b) := by
  rw [State.inspectBit, bitRead_eq_ok.mpr there]

/-- Settles O57: an index of the port's width is not cut, and the port reads the entry there. -/
theorem inspectionShowsValidEntries : Obligations.InspectionShowsValidEntries := by
  intro s i j hi hj
  simp only [State.outputs, fitCount_of_lt hi, fitCount_of_lt hj]
  refine ⟨inspectEdge_valid s i, inspectBit_valid s j, fun e there => ?_, fun b there => ?_⟩
  · rw [inspectEdge_of_getElem there]
    exact ⟨rfl, rfl⟩
  · rw [inspectBit_of_getElem there]

/-! ### Input words -/

theorem ofWord_toWord (p : Pins) : Pins.ofWord p.toWord = p := by
  obtain ⟨rst, start, lineErr, lineLevel⟩ := p
  simp only [Pins.ofWord, Pins.toWord, BitVec.getLsbD_append, BitVec.getLsbD_ofBool]
  simp

theorem toWord_ofWord (w : InWord) : (Pins.ofWord w).toWord = w := by
  apply BitVec.eq_of_getLsbD_eq
  intro b hb
  simp only [Pins.ofWord, Pins.toWord, BitVec.getLsbD_append, BitVec.getLsbD_ofBool]
  interval_cases b <;> simp

/-- Settles O59: each port stands at its own bit of the word. -/
theorem inputWordsAreThePorts : Obligations.InputWordsAreThePorts :=
  ⟨ofWord_toWord, toWord_ofWord, rfl, rfl, rfl, rfl, rfl, rfl⟩

end Sys2Proof.Machine
end

section
/-! Attempt control in one step (40_control.md): what the step composition runs (R105), START, IDLE_HOLD and RESET
(R100, R101, R104), the phases that follow each phase (R103), and START while an attempt runs (R102). -/

namespace Sys2Proof.Machine

variable {s : State}

/-! ### The step composition -/

/-- Settles O2: START is the named update of R100. -/
theorem startBeginsAnAttempt : Obligations.StartBeginsAnAttempt := ⟨rfl, rfl, fun _ => rfl⟩

/-- Settles O3: IDLE_HOLD answers the state it is given. -/
theorem idleHoldWritesNothing : Obligations.IdleHoldWritesNothing := ⟨rfl, rfl, fun _ => rfl⟩

/-- Settles O23: a legal configuration and an unreserved STATUS leave the decoded selection to run. -/
theorem stepRunsTheDecodedOperations : Obligations.StepRunsTheDecodedOperations := by
  refine fun s config => ⟨fun decoded => ?reset, fun legal => ⟨fun i decoded => ?alone, fun i decoded => ?beside⟩⟩
  case reset => rw [step, cycleStep, if_pos config, decoded]; rfl
  case alone => simp only [step, cycleStep, if_pos config, decoded, legal]; rfl
  case beside => simp only [step, cycleStep, if_pos config, decoded, legal]; rfl

/-- Settles O24: RESET's row stands before the test of STATUS, and RESET leaves every element at its reset value. -/
theorem resetOverridesEverything : Obligations.ResetOverridesEverything :=
  fun _ config reset => step_of_reset config reset

/-! ### The phase that follows -/

@[simp] theorem captureTail_status (s : State) : (captureTail s).status = s.status := by
  obtain ⟨_, _, eq⟩ := captureTail_frame s; rw [eq]; rfl

/-- The tail of a poll stays in CAPTURE or goes on to CLASSIFY (R121). -/
theorem captureTail_phase (phase : s.phase = .capture) :
    (captureTail s).phase = .capture ∨ (captureTail s).phase = .classify := by
  obtain ⟨-, eq⟩ | ⟨-, -, eq⟩ := captureTail_cases s
  · exact .inr (by rw [eq]; rfl)
  · exact .inl (by rw [eq]; exact phase)

/-- Settles O39: each row belongs to one phase, and R103 says where it leads. -/
theorem phasesMoveOnlyForward : Obligations.PhasesMoveOnlyForward := by
  intro s t stepped noReset
  obtain ⟨u, effect, rfl⟩ := step_without_reset stepped noReset
  cases effect with
  | start phase start => simp [phase, start]
  | idleHold phase noStart => simp [phase, noStart]
  | capAbort phase failed => simp [phase, failed]
  | capSeed phase read | capEdge phase read | capSame phase read =>
    simp [phase, read, captureTail_phase]
  | clsPairFall phase | clsPairRise phase | clsEnd phase => simp [phase]
  | decInsuf phase | decExhaust phase | decMatch phase | decMismatch phase => simp [phase]

/-! ### START while an attempt runs -/

theorem edgeAppend_presenting (s : State) (w : InWord) (ts : Nat) (kind : Bool) :
    edgeAppend (s.presenting w) ts kind = (edgeAppend s ts kind).map (State.presenting · w) := by
  rw [edgeAppend, edgeAppend, apply_ite (Except.map (State.presenting · w))]
  rfl

/-- Of the coming input word an operation reads the level alone, and it leaves the word for the edge to consume. -/
theorem exec_presenting_of_lineLevel (i : Instr) {w : InWord} (level : (Pins.ofWord w).lineLevel = s.pins.lineLevel) :
    exec i (s.presenting w) = andThen (exec i s) (fun t => .next (t.presenting w)) := by
  by_cases notSeed : i = .capSeed
  · subst notSeed
    simp only [exec, execCapSeed, pins_presenting, level]
    exact congrArg _ (captureTail_presenting (s.seedLevel s.pins.lineLevel) w)
  by_cases notEdge : i = .capEdge
  · subst notEdge
    have clock : (s.presenting w).elapsed = s.elapsed := rfl
    simp only [exec, execCapEdge, pins_presenting, level, clock, edgeAppend_presenting]
    cases edgeAppend s s.elapsed s.pins.lineLevel with
    | error f => rfl
    | ok t => exact congrArg _ (captureTail_presenting (t.noteLevel s.pins.lineLevel) w)
  exact exec_presenting notSeed notEdge s w

/-- Outside IDLE the row depends on the line's two ports alone (R82). -/
theorem row_presenting_of_busy (busy : s.phase ≠ .idle) {w : InWord}
    (failure : (Pins.ofWord w).lineErr = s.pins.lineErr) (level : (Pins.ofWord w).lineLevel = s.pins.lineLevel) :
    (s.presenting w).row = s.row := by
  cases code : s.phase with
  | idle => exact absurd code busy
  | capture =>
    have changed : (s.presenting w).changed = s.changed := by
      rw [State.changed, State.changed, pins_presenting, level]; rfl
    rw [row_of_capture (s := s.presenting w) code, row_of_capture code, pins_presenting, failure, changed]
    rfl
  | classify => rw [row_of_classify (s := s.presenting w) code, row_of_classify code]; rfl
  | decode => rw [row_of_decode (s := s.presenting w) code, row_of_decode code]; rfl

/-- In an attempt, a word that differs from the coming one in `start` alone, which it sets, marks the violation beside
the same primary row (R102, R105). -/
theorem step_presenting_start (busy : s.phase ≠ .idle) (noReset : s.pins.rst = false)
    (noStart : s.pins.start = false) {w : InWord} (word : Pins.ofWord w = { s.pins with start := true }) :
    step (s.presenting w) = andThen (step s) (fun t => .next t.markViolation) := by
  by_cases config : s.params.WellFormed
  · have row : (s.presenting w).row = s.row := row_presenting_of_busy busy (by rw [word]) (by rw [word])
    have run := exec_presenting_of_lineLevel (s := s) s.row (w := w) (by rw [word])
    have side : (s.presenting w).startWhileBusy = true := by
      rw [startWhileBusy_eq, pins_presenting, word]
      exact decide_eq_true busy
    have noSide : s.startWhileBusy = false := by rw [startWhileBusy_eq, noStart]; rfl
    have status : (s.presenting w).status = s.status := rfl
    rw [step_of_wellFormed (s := s.presenting w) config, step_of_wellFormed config, pins_presenting, word, row, side,
      noSide, status]
    simp only [noReset, Bool.false_eq_true, if_false, runSelection, run]
    cases s.status.isReserved with
    | true => rfl
    | false => cases exec s.row s <;> rfl
  · rw [step_of_not_wellFormed (s := s.presenting w) config, step_of_not_wellFormed config]
    rfl

/-- Settles O4: presenting the second word after the first is presenting the second. -/
theorem busyStartOnlyMarksTheViolation : Obligations.BusyStartOnlyMarksTheViolation :=
  ⟨rfl, rfl, fun _ => rfl, fun s without _ busy noReset noStart word =>
    step_presenting_start (s := s.presenting without) busy noReset noStart word⟩

end Sys2Proof.Machine
end

section
/-! Runs of several steps: the inputs that come after some edges (R105; log 2), and runs whose states before the last
one all have a property. -/

namespace Sys2Proof.Machine

variable {s t u : State} {P Q : State → Prop} {m n : Nat}

/-! ### The inputs to come -/

@[simp] theorem captureTail_params (s : State) : (captureTail s).params = s.params := by
  obtain ⟨_, _, eq⟩ := captureTail_frame s; rw [eq]; rfl
@[simp] theorem captureTail_stimulus (s : State) : (captureTail s).stimulus = s.stimulus := by
  obtain ⟨_, _, eq⟩ := captureTail_frame s; rw [eq]; rfl
@[simp] theorem captureTail_cycle (s : State) : (captureTail s).cycle = s.cycle := by
  obtain ⟨_, _, eq⟩ := captureTail_frame s; rw [eq]; rfl

/-- No primary row writes the inputs to come or counts the edge. -/
theorem RowEffect.inputs_eq (effect : RowEffect s u) : u.stimulus = s.stimulus ∧ u.cycle = s.cycle := by
  cases effect <;> simp

theorem inputAt_congr (stimulus : t.stimulus = s.stimulus) (cycle : t.cycle = s.cycle) (k : Nat) :
    t.inputAt k = s.inputAt k := by
  rw [State.inputAt, stimulus, cycle, State.inputAt]

/-- An edge consumes the coming input word (log 2). -/
theorem inputAt_advance (s : State) (k : Nat) : s.advance.inputAt k = s.inputAt (k + 1) := by
  rw [State.inputAt, State.inputAt, State.advance_stimulus, State.advance_cycle, List.getElem?_tail,
    Nat.add_assoc, Nat.add_comm 1 k]

/-- After a step the next input words are those that came after the step's own. -/
theorem inputAt_of_step (stepped : step s = .next t) (k : Nat) : t.inputAt k = s.inputAt (k + 1) := by
  cases reset : s.pins.rst with
  | true =>
    obtain ⟨-, ⟨-, rfl⟩ | ⟨noReset, -⟩⟩ := step_cases stepped
    · rw [inputAt_advance]; exact inputAt_congr rfl rfl _
    · simp [reset] at noReset
  | false =>
    obtain ⟨u, effect, rfl⟩ := step_without_reset stepped reset
    obtain ⟨stimulus, cycle⟩ := effect.inputs_eq
    rw [inputAt_advance]
    exact inputAt_congr stimulus cycle _

/-! ### Inputs without reset -/

theorem NoResetFor.now (noReset : NoResetFor s (n + 1)) : s.pins.rst = false := noReset 0 n.succ_pos

theorem NoResetFor.mono (noReset : NoResetFor s n) (le : m ≤ n) : NoResetFor s m :=
  fun k hk => noReset k (hk.trans_le le)

theorem NoResetFor.next (noReset : NoResetFor s (n + 1)) (stepped : step s = .next t) : NoResetFor t n := by
  intro k hk
  rw [inputAt_of_step stepped]
  exact noReset (k + 1) (Nat.succ_lt_succ hk)

/-! ### Runs through states of one kind -/

/-- `RunThrough P s n t`: `n` steps lead from `s` to `t`, and every state before `t` meets `P`. -/
inductive RunThrough (P : State → Prop) : State → Nat → State → Prop where
  | done (s : State) : RunThrough P s 0 s
  | step {s u t : State} {n : Nat} (here : P s) (stepped : step s = .next u) (rest : RunThrough P u n t) :
      RunThrough P s (n + 1) t

namespace RunThrough

theorem steps_eq (run : RunThrough P s n t) : steps n s = .next t := by
  induction run with
  | done s => rfl
  | step _ stepped _ ih => rw [steps, stepped, andThen_next, ih]

theorem before (run : RunThrough P s n t) : ∀ k, k < n → ∃ u, steps k s = .next u ∧ P u := by
  induction run with
  | done s => exact fun k hk => absurd hk k.not_lt_zero
  | step here stepped _ ih =>
    intro k hk
    cases k with
    | zero => exact ⟨_, rfl, here⟩
    | succ k =>
      obtain ⟨u, run, there⟩ := ih k (Nat.lt_of_succ_lt_succ hk)
      exact ⟨u, by rw [steps, stepped, andThen_next, run], there⟩

theorem mono (run : RunThrough P s n t) (weaker : ∀ u, P u → Q u) : RunThrough Q s n t := by
  induction run with
  | done s => exact .done s
  | step here stepped _ ih => exact .step (weaker _ here) stepped ih

theorem trans (first : RunThrough P s m t) (second : RunThrough P t n u) : RunThrough P s (m + n) u := by
  induction first with
  | done s => rwa [Nat.zero_add]
  | step here stepped _ ih => rw [Nat.succ_add]; exact .step here stepped (ih second)

/-- One step more at the end of a run. -/
theorem snoc (run : RunThrough P s n t) (here : P t) (stepped : Machine.step t = .next u) :
    RunThrough P s (n + 1) u :=
  run.trans (.step here stepped (.done u))

theorem inputAt_eq (run : RunThrough P s n t) (k : Nat) : t.inputAt k = s.inputAt (n + k) := by
  induction run with
  | done s => rw [Nat.zero_add]
  | step _ stepped _ ih => rw [ih, inputAt_of_step stepped, Nat.add_right_comm]

theorem params_eq (run : RunThrough P s n t) : t.params = s.params := by
  induction run with
  | done s => rfl
  | step _ stepped _ ih => exact ih.trans (noStepWritesAParameter _ _ stepped)

theorem attemptInv (run : RunThrough P s n t) (inv : AttemptInv s) : AttemptInv t := by
  induction run with
  | done s => exact inv
  | step _ stepped _ ih => exact ih (stepKeepsAttemptInv _ _ inv stepped)

theorem noResetFor (run : RunThrough P s m t) (noReset : NoResetFor s (m + n)) : NoResetFor t n := by
  intro k hk
  rw [run.inputAt_eq]
  exact noReset (m + k) (Nat.add_lt_add_left hk m)

end RunThrough

/-- From a state with the invariants, a cycle without reset runs one primary row and then counts the edge (O29). -/
theorem AttemptInv.exists_rowEffect (inv : AttemptInv s) (noReset : s.pins.rst = false) :
    ∃ u, RowEffect s u ∧
      step s = .next (State.advance
        { u with hostViol := u.hostViol || (s.pins.start && decide (s.phase ≠ .idle)) }) := by
  obtain ⟨t, stepped⟩ := invariantStatesNeverStop s inv
  obtain ⟨u, effect, rfl⟩ := step_without_reset stepped noReset
  exact ⟨u, effect, stepped⟩

end Sys2Proof.Machine
end

section
/-! Every attempt ends (R103): a number of cycles that each cycle of an attempt lowers, so an attempt without reset
comes to IDLE within its stages' bounds (O46), with one of the four outcomes. -/

namespace Sys2Proof.Machine

variable {s t u v : State} {n : Nat}

/-! ### What a poll writes before its tail -/

/-- `PollWrites s v`: `v` is the state `s` of CAPTURE after a poll's own writes and before the tail of R121: the level
sampled is the last one, and is a new edge where it differs from a last one that there was (R123 to R125). -/
structure PollWrites (s v : State) : Prop where
  polled : Polled v
  params : v.params = s.params
  elapsed : v.elapsed = s.elapsed
  lastLevel : v.lastLevel = s.pins.lineLevel
  edges : v.edges =
    if s.haveLast = true ∧ s.pins.lineLevel ≠ s.lastLevel then s.edges ++ [⟨s.elapsed, s.pins.lineLevel⟩]
    else s.edges

/-- In CAPTURE a cycle that reads the line is a poll with its tail. -/
theorem RowEffect.exists_pollWrites (effect : RowEffect s u) (inv : AttemptInv s) (phase : s.phase = .capture)
    (read : s.pins.lineErr = false) : ∃ v, PollWrites s v ∧ u = captureTail v := by
  cases effect with
  | capSeed _ _ unseeded =>
    refine ⟨_, ?_, rfl⟩
    exact
    { polled := polled_of_seeded (attemptInv_seedLevel _ inv unseeded) phase rfl
      params := rfl
      elapsed := rfl
      lastLevel := rfl
      edges := by simp [unseeded] }
  | capEdge _ _ seeded changed room =>
    refine ⟨_, ?_, rfl⟩
    exact
    { polled := polled_pushEdge (polled_of_seeded inv phase seeded) inv.timesPast room changed
      params := rfl
      elapsed := rfl
      lastLevel := rfl
      edges := by
        rw [if_pos ⟨seeded, changed⟩, State.noteLevel_edges, State.pushEdge_edges,
          fitTs_of_le_captureTicks inv.config inv.elapsedBound] }
  | capSame _ _ seeded same =>
    refine ⟨_, ?_, rfl⟩
    exact
    { polled := polled_of_seeded inv phase seeded
      params := rfl
      elapsed := rfl
      lastLevel := same.symm
      edges := by simp [same] }
  | capAbort _ failed => simp [read] at failed
  | start other | idleHold other | clsPairFall other | clsPairRise other | clsEnd other | decInsuf other
  | decExhaust other | decMatch other | decMismatch other => cases phase.symm.trans other

/-! ### The cycles left -/

/-- A bound on the cycles that an attempt still takes: those left of the stage it is in, and those of the stages to
come (R103). -/
def stepsLeft (s : State) : Nat :=
  match s.phase with
  | .idle => 0
  | .capture =>
    (s.params.captureTicks + 1 - s.elapsed) + (s.params.maxEdges - 1 + 1) + (bitCap s.params - 39 + 1)
  | .classify => (s.params.maxEdges - 1 - s.clsIdx + 1) + (bitCap s.params - 39 + 1)
  | .decode => bitCap s.params - 39 - s.winOff + 1

theorem stepsLeft_of_idle (phase : s.phase = .idle) : stepsLeft s = 0 := by rw [stepsLeft, phase]

theorem stepsLeft_of_capture (phase : s.phase = .capture) :
    stepsLeft s =
      (s.params.captureTicks + 1 - s.elapsed) + (s.params.maxEdges - 1 + 1) + (bitCap s.params - 39 + 1) := by
  rw [stepsLeft, phase]

theorem stepsLeft_of_classify (phase : s.phase = .classify) :
    stepsLeft s = (s.params.maxEdges - 1 - s.clsIdx + 1) + (bitCap s.params - 39 + 1) := by
  rw [stepsLeft, phase]

theorem stepsLeft_of_decode (phase : s.phase = .decode) : stepsLeft s = bitCap s.params - 39 - s.winOff + 1 := by
  rw [stepsLeft, phase]

/-- No state has more cycles left than the three stages' bounds together. -/
theorem stepsLeft_le (s : State) :
    stepsLeft s ≤ (s.params.captureTicks + 1) + (s.params.maxEdges - 1 + 1) + (bitCap s.params - 39 + 1) := by
  cases phase : s.phase with
  | idle => rw [stepsLeft_of_idle phase]; omega
  | capture => rw [stepsLeft_of_capture phase]; omega
  | classify => rw [stepsLeft_of_classify phase]; omega
  | decode => rw [stepsLeft_of_decode phase]; omega

theorem stepsLeft_pos (busy : s.phase ≠ .idle) : 0 < stepsLeft s := by
  cases phase : s.phase with
  | idle => exact absurd phase busy
  | capture => rw [stepsLeft_of_capture phase]; omega
  | classify => rw [stepsLeft_of_classify phase]; omega
  | decode => rw [stepsLeft_of_decode phase]; omega

/-- A poll's tail lets time pass, or ends the capture with a poll to spare (R121). -/
theorem stepsLeft_captureTail_lt (polled : Polled v) : stepsLeft (captureTail v) < stepsLeft v := by
  have time := polled.elapsedFits
  rw [stepsLeft_of_capture polled.phase]
  obtain ⟨-, eq⟩ | ⟨-, -, eq⟩ := captureTail_cases v
  · rw [eq, stepsLeft_of_classify rfl]
    simp only [State.enterClassify_params, State.tickElapsed_params, State.enterClassify_clsIdx]
    omega
  · rw [eq, stepsLeft_of_capture (s := v.tickElapsed) polled.phase, polled.elapsed_tickElapsed,
      State.tickElapsed_params]
    omega

/-- A pair examined lowers the pairs left (R143, R144). -/
theorem stepsLeft_nextPair_lt (inv : AttemptInv s) (phase : s.phase = .classify) {second : EdgeEvent}
    (there : s.edges[s.clsIdx + 1]? = some second) : stepsLeft s.nextPair < stepsLeft s := by
  obtain ⟨next, bound⟩ := inv.clsIdx_nextPair there
  have fits := inv.edgesFit
  rw [stepsLeft_of_classify phase, stepsLeft_of_classify (s := s.nextPair) phase, next, State.nextPair_params]
  omega

/-- The next window's offset, where the rejected one was whole (R13 (b), R167). -/
theorem AttemptInv.winOff_rejectWindow (inv : AttemptInv s) (whole : s.winOff + 40 ≤ s.bitCount) :
    s.rejectWindow.winOff = s.winOff + 1 :=
  fitCount_of_le_edgeCount inv (by have := inv.bitCount_le_edgeCount; omega)

/-- A rejected window lowers the windows left (R167). -/
theorem stepsLeft_rejectWindow_lt (inv : AttemptInv s) (phase : s.phase = .decode)
    (whole : s.winOff + 40 ≤ s.bitCount) : stepsLeft s.rejectWindow < stepsLeft s := by
  have fits : s.bitCount ≤ bitCap s.params := inv.bitsFit.1.trans inv.bitsFit.2
  rw [stepsLeft_of_decode phase, stepsLeft_of_decode (s := s.rejectWindow) phase, inv.winOff_rejectWindow whole,
    State.rejectWindow_params]
  omega

/-- R103: every cycle of an attempt lowers the cycles left. -/
theorem stepsLeft_lt_of_rowEffect (inv : AttemptInv s) (busy : s.phase ≠ .idle) (effect : RowEffect s u) :
    stepsLeft u < stepsLeft s := by
  have ended (code : Status) (v : State) : stepsLeft (v.finish code) < stepsLeft s := stepsLeft_pos busy
  have polled (phase : s.phase = .capture) (read : s.pins.lineErr = false) : stepsLeft u < stepsLeft s := by
    obtain ⟨v, poll, rfl⟩ := effect.exists_pollWrites inv phase read
    calc stepsLeft (captureTail v) < stepsLeft v := stepsLeft_captureTail_lt poll.polled
      _ = stepsLeft s := by
        rw [stepsLeft_of_capture phase, stepsLeft_of_capture poll.polled.phase, poll.params, poll.elapsed]
  cases effect with
  | start idle | idleHold idle => exact absurd idle busy
  | capAbort | decInsuf | decExhaust | decMatch => exact ended _ _
  | capSeed phase read | capEdge phase read | capSame phase read => exact polled phase read
  | clsPairFall phase first second before there => exact stepsLeft_nextPair_lt (s := s) inv phase there
  | clsPairRise phase second there => exact stepsLeft_nextPair_lt inv phase there
  | clsEnd phase =>
    rw [stepsLeft_of_classify phase, stepsLeft_of_decode rfl, State.enterDecode_params, State.enterDecode_winOff]
    omega
  | decMismatch phase whole => exact stepsLeft_rejectWindow_lt inv phase whole

/-! ### The outcome -/

/-- The last reading of two states is the same, and whether there is one (R31, R32). -/
def SameReading (s t : State) : Prop := SameResults s t ∧ t.haveReading = s.haveReading

theorem SameReading.refl (s : State) : SameReading s s := ⟨⟨rfl, rfl, rfl, rfl, rfl⟩, rfl⟩

theorem SameReading.trans (first : SameReading s t) (second : SameReading t u) : SameReading s u := by
  obtain ⟨⟨hum, temp, sign, frame, off⟩, kept⟩ := first
  obtain ⟨⟨hum', temp', sign', frame', off'⟩, kept'⟩ := second
  exact ⟨⟨hum'.trans hum, temp'.trans temp, sign'.trans sign, frame'.trans frame, off'.trans off⟩,
    kept'.trans kept⟩

/-- An attempt that began at `s` shows in `t` one of the four outcomes, with a reading where it is OK, and otherwise
with the reading of `s` (R31, R191). -/
def AttemptOutcome (s t : State) : Prop :=
  (t.status = .ok ∧ t.haveReading = true) ∨
    ((t.status = .lineIoFailed ∨ t.status = .insufficientData ∨ t.status = .noValidFrame) ∧
      SameResults s t ∧ t.haveReading = s.haveReading)

theorem AttemptOutcome.of_sameReading (same : SameReading s t) (outcome : AttemptOutcome t u) :
    AttemptOutcome s u := by
  obtain ok | ⟨status, kept⟩ := outcome
  · exact .inl ok
  · exact .inr ⟨status, same.trans kept⟩

/-- A cycle that does not end its attempt in OK keeps the last reading (R31, R32). -/
theorem sameReading_of_step (stepped : step s = .next t) (noReset : s.pins.rst = false)
    (noMatch : t.phase = .idle → t.status ≠ .ok) : SameReading s t := by
  constructor
  · obtain same | ⟨-, idle, ok, -⟩ := onlyAMatchWritesTheResults s t stepped noReset
    · exact same
    · exact absurd ok (noMatch idle)
  · obtain ⟨-, kept, set⟩ := stickyFlagsClearOnlyOnReset s t stepped noReset
    cases before : s.haveReading with
    | true => exact kept before
    | false =>
      by_contra changed
      obtain ⟨-, idle, ok⟩ := set before (by simpa using changed)
      exact noMatch idle ok

/-- The cycle in which an attempt ends writes its outcome (R103). -/
theorem attemptOutcome_of_step (inv : AttemptInv s) (stepped : step s = .next t) (noReset : s.pins.rst = false)
    (busy : s.phase ≠ .idle) (idle : t.phase = .idle) : AttemptOutcome s t := by
  obtain ⟨-, capture, classify, decode⟩ := phasesMoveOnlyForward s t stepped noReset
  have outcome : t.status = .ok ∨ t.status = .lineIoFailed ∨ t.status = .insufficientData ∨
      t.status = .noValidFrame := by
    cases phase : s.phase with
    | idle => exact absurd phase busy
    | capture =>
      obtain ⟨going, -⟩ | ⟨-, -, failed⟩ := capture phase
      · simp [idle] at going
      · exact .inr (.inl failed)
    | classify =>
      obtain ⟨going, -⟩ := classify phase
      simp [idle] at going
    | decode =>
      obtain ⟨going, -⟩ | ⟨-, ok | short | none⟩ := decode phase
      · cases idle.symm.trans going
      · exact .inl ok
      · exact .inr (.inr (.inl short))
      · exact .inr (.inr (.inr none))
  obtain ok | failed := outcome
  · exact .inl ⟨ok, (stepKeepsAttemptInv s t inv stepped).okHasReading idle ok⟩
  · refine .inr ⟨failed, sameReading_of_step stepped noReset fun _ ok => ?_⟩
    simp [ok] at failed

/-! ### The end -/

/-- R103: an attempt without reset in its cycles left ends in them, with an outcome. -/
theorem AttemptInv.exists_end (inv : AttemptInv s) (busy : s.phase ≠ .idle) (left : stepsLeft s ≤ n)
    (noReset : NoResetFor s n) :
    ∃ m t, m ≤ n ∧ RunThrough (·.phase ≠ .idle) s m t ∧ t.phase = .idle ∧ AttemptOutcome s t := by
  induction n generalizing s with
  | zero => exact absurd (stepsLeft_pos busy) (by omega)
  | succ n ih =>
    obtain ⟨u, effect, stepped⟩ := inv.exists_rowEffect noReset.now
    have fewer := stepsLeft_lt_of_rowEffect inv busy effect
    by_cases idle : u.phase = .idle
    · exact ⟨1, _, by omega, .step busy stepped (.done _), idle,
        attemptOutcome_of_step inv stepped noReset.now busy idle⟩
    · obtain ⟨m, t, le, run, ended, outcome⟩ :=
        ih (stepKeepsAttemptInv _ _ inv stepped) idle (Nat.le_of_lt_succ (fewer.trans_le left))
          (noReset.next stepped)
      exact ⟨m + 1, t, Nat.succ_le_succ le, .step busy stepped run, ended,
        outcome.of_sameReading (sameReading_of_step stepped noReset.now fun h => absurd h idle)⟩

/-- Settles O46: the cycles left are at most the bounds of the three stages. -/
theorem everyAttemptEndsWithinItsBound : Obligations.EveryAttemptEndsWithinItsBound := by
  intro s inv noReset
  by_cases idle : s.phase = .idle
  · exact ⟨0, s, Nat.zero_le _, rfl, idle⟩
  · obtain ⟨n, t, le, run, ended, -⟩ := inv.exists_end idle (stepsLeft_le s) noReset
    exact ⟨n, t, le, run.steps_eq, ended⟩

end Sys2Proof.Machine
end

section
/-! The Edge Sequence as a function of the sampled levels (R129): the changes up to one more level, and the last poll as
the least one at which time or room ends. -/

namespace Sys2Proof.Machine

variable {p : Params} {level : Nat → Bool} {m n k : Nat}

/-! ### One more level -/

@[simp] theorem levelChanges_zero (level : Nat → Bool) : levelChanges level 0 = [] := rfl

theorem levelChanges_succ (level : Nat → Bool) (m : Nat) :
    levelChanges level (m + 1) =
      if level (m + 1) ≠ level m then levelChanges level m ++ [⟨m + 1, level (m + 1)⟩] else levelChanges level m := by
  rw [levelChanges, List.range'_concat, List.filter_append, List.map_append, ← levelChanges]
  by_cases same : level (m + 1) = level m <;> simp [same, Nat.add_comm 1 m]

/-- Changes are appended in the order of time. -/
theorem levelChanges_eq_append (level : Nat → Bool) (le : m ≤ n) :
    ∃ later, levelChanges level n = levelChanges level m ++ later ∧ ∀ e ∈ later, m < e.ts := by
  induction n, le using Nat.le_induction with
  | base => exact ⟨[], by simp⟩
  | succ n le ih =>
    obtain ⟨later, eq, past⟩ := ih
    rw [levelChanges_succ, eq]
    split_ifs
    · refine ⟨later ++ [⟨n + 1, level (n + 1)⟩], List.append_assoc .., ?_⟩
      exact List.forall_mem_append.mpr ⟨past, by simpa using Nat.lt_succ_of_le le⟩
    · exact ⟨later, rfl, past⟩

theorem length_levelChanges_mono (level : Nat → Bool) (le : m ≤ n) :
    (levelChanges level m).length ≤ (levelChanges level n).length := by
  obtain ⟨later, eq, -⟩ := levelChanges_eq_append level le
  rw [eq, List.length_append]
  exact Nat.le_add_right _ _

theorem length_levelChanges_succ_le (level : Nat → Bool) (m : Nat) :
    (levelChanges level (m + 1)).length ≤ (levelChanges level m).length + 1 := by
  rw [levelChanges_succ]
  split_ifs <;> simp

/-- The changes up to a level are at times from 1 to it. -/
theorem ts_of_mem_levelChanges {e : EdgeEvent} (mem : e ∈ levelChanges level m) : 1 ≤ e.ts ∧ e.ts ≤ m := by
  obtain ⟨ts, inRange, rfl⟩ := List.mem_map.mp mem
  obtain ⟨low, high⟩ := List.mem_range'_1.mp (List.mem_of_mem_filter inRange)
  exact ⟨low, Nat.lt_succ_iff.mp (by rwa [Nat.succ_eq_one_add])⟩

/-! ### The last poll -/

theorem lastPoll_of_none (fewer : (levelChanges level p.captureTicks)[p.maxEdges - 1]? = none) :
    lastPoll p level = p.captureTicks := by
  rw [lastPoll, fewer]

theorem lastPoll_of_some {e : EdgeEvent} (last : (levelChanges level p.captureTicks)[p.maxEdges - 1]? = some e) :
    lastPoll p level = e.ts := by
  rw [lastPoll, last]

/-- R129: the capture runs to CAPTURE_TICKS where the buffer does not fill, and otherwise to the change that is the
`MAX_EDGES`-th. -/
theorem lastPoll_cases (room : 1 ≤ p.maxEdges) (level : Nat → Bool) :
    (lastPoll p level = p.captureTicks ∧ (levelChanges level p.captureTicks).length < p.maxEdges) ∨
      (lastPoll p level ≤ p.captureTicks ∧ (levelChanges level (lastPoll p level)).length = p.maxEdges ∧
        ∀ k, k < lastPoll p level → (levelChanges level k).length < p.maxEdges) := by
  cases last : (levelChanges level p.captureTicks)[p.maxEdges - 1]? with
  | none =>
    have fewer := List.getElem?_eq_none_iff.mp last
    exact .inl ⟨lastPoll_of_none last, by omega⟩
  | some e =>
    obtain ⟨low, high⟩ := ts_of_mem_levelChanges (List.mem_of_getElem? last)
    rw [lastPoll_of_some last]
    have before (k : Nat) (hk : k < e.ts) : (levelChanges level k).length < p.maxEdges := by
      obtain ⟨later, eq, -⟩ := levelChanges_eq_append level (hk.le.trans high)
      by_contra full
      rw [eq, List.getElem?_append_left (by omega)] at last
      have := (ts_of_mem_levelChanges (List.mem_of_getElem? last)).2
      omega
    refine .inr ⟨high, Nat.le_antisymm ?_ ?_, before⟩
    · obtain ⟨k, hk⟩ : ∃ k, e.ts = k + 1 := ⟨e.ts - 1, by omega⟩
      have grown := length_levelChanges_succ_le level k
      have fewer := before k (by omega)
      rw [hk]
      omega
    · obtain ⟨later, eq, past⟩ := levelChanges_eq_append level high
      by_contra fewer
      rw [eq, List.getElem?_append_right (by omega)] at last
      exact (past e (List.mem_of_getElem? last)).false

/-- R121: before the last poll there is time and room left. -/
theorem lt_of_lt_lastPoll (room : 1 ≤ p.maxEdges) (before : k < lastPoll p level) :
    (levelChanges level k).length < p.maxEdges ∧ k < p.captureTicks := by
  obtain ⟨last, fewer⟩ | ⟨last, -, running⟩ := lastPoll_cases room level
  · rw [last] at before
    exact ⟨(length_levelChanges_mono level before.le).trans_lt fewer, before⟩
  · exact ⟨running k before, before.trans_le last⟩

/-- R121: at the last poll there is none. -/
theorem ends_at_lastPoll (room : 1 ≤ p.maxEdges) (level : Nat → Bool) :
    (levelChanges level (lastPoll p level)).length = p.maxEdges ∨ lastPoll p level = p.captureTicks := by
  obtain ⟨last, -⟩ | ⟨-, full, -⟩ := lastPoll_cases room level
  · exact .inr last
  · exact .inl full

/-- R129: the changes up to the last poll are the Edge Sequence. -/
theorem levelChanges_lastPoll (room : 1 ≤ p.maxEdges) (level : Nat → Bool) :
    levelChanges level (lastPoll p level) = edgesOfLevels p level := by
  rw [edgesOfLevels]
  obtain ⟨last, fewer⟩ | ⟨last, full, -⟩ := lastPoll_cases room level
  · rw [last, List.take_of_length_le fewer.le]
  · obtain ⟨later, eq, -⟩ := levelChanges_eq_append level last
    rw [eq, ← full, List.take_left]

end Sys2Proof.Machine
end

section
/-! The capture stage (R120 to R129): after `k` polls a capture holds the changes of the levels sampled, and it ends at
the last poll. -/

namespace Sys2Proof.Machine

variable {s t u : State} {level : Nat → Bool} {k n : Nat}

theorem AttemptInv.maxEdges_pos (inv : AttemptInv s) : 1 ≤ s.params.maxEdges := by
  obtain ⟨-, room, -⟩ := inv.config
  exact room

/-- `CaptureAt level k s`: `s` is the state of a capture that has sampled `level` at the polls before `k`. -/
structure CaptureAt (level : Nat → Bool) (k : Nat) (s : State) : Prop where
  phase : s.phase = .capture
  elapsed : s.elapsed = k
  edges : s.edges = levelChanges level (k - 1)
  haveLast : s.haveLast = decide (0 < k)
  lastLevel : 0 < k → s.lastLevel = level (k - 1)

/-- Right after START no level has been sampled (R100, R123). -/
theorem captureAt_zero (inv : AttemptInv s) (phase : s.phase = .capture) (unseeded : s.haveLast = false)
    (level : Nat → Bool) : CaptureAt level 0 s where
  phase := phase
  elapsed := inv.seedAtZero phase unseeded
  edges := inv.noEdgeUnseeded unseeded
  haveLast := unseeded
  lastLevel := by simp

/-- R120: a poll's own writes add the change, if any, to the level sampled. -/
theorem PollWrites.edges_eq {v : State} (poll : PollWrites s v) (sofar : CaptureAt level k s)
    (sample : s.pins.lineLevel = level k) : v.edges = levelChanges level k := by
  rw [poll.edges, sofar.haveLast, sofar.edges, sofar.elapsed, sample]
  cases k with
  | zero => simp
  | succ k => simp [sofar.lastLevel k.succ_pos, levelChanges_succ]

/-- A poll before the last one leaves the capture running, one level further (R121). -/
theorem CaptureAt.poll (sofar : CaptureAt level k s) (inv : AttemptInv s) (noReset : s.pins.rst = false)
    (read : s.pins.lineErr = false) (sample : s.pins.lineLevel = level k) (before : k < lastPoll s.params level) :
    ∃ t, step s = .next t ∧ CaptureAt level (k + 1) t := by
  obtain ⟨u, effect, stepped⟩ := inv.exists_rowEffect noReset
  obtain ⟨v, poll, rfl⟩ := effect.exists_pollWrites inv sofar.phase read
  have edges := poll.edges_eq sofar sample
  obtain ⟨room, time⟩ := lt_of_lt_lastPoll inv.maxEdges_pos before
  have going : captureTail v = v.tickElapsed := by
    refine if_neg ?_
    rw [State.edgeCount, edges, poll.params, poll.elapsed, sofar.elapsed]
    omega
  rw [going] at stepped
  refine ⟨_, stepped, ?_⟩
  exact
  { phase := poll.polled.phase
    elapsed := by
      rw [State.advance_elapsed, ← sofar.elapsed, ← poll.elapsed]
      exact poll.polled.elapsed_tickElapsed
    edges := edges
    haveLast := by simpa using poll.polled.seeded
    lastLevel := fun _ => poll.lastLevel.trans sample }

/-- The last poll ends the capture with the Edge Sequence (R121, R129). -/
theorem CaptureAt.poll_last (sofar : CaptureAt level (lastPoll s.params level) s) (inv : AttemptInv s)
    (noReset : s.pins.rst = false) (read : s.pins.lineErr = false)
    (sample : s.pins.lineLevel = level (lastPoll s.params level)) :
    ∃ t, step s = .next t ∧ t.phase = .classify ∧ t.clsIdx = 0 ∧ t.edges = edgesOfLevels s.params level ∧
      t.elapsed = lastPoll s.params level + 1 := by
  obtain ⟨u, effect, stepped⟩ := inv.exists_rowEffect noReset
  obtain ⟨v, poll, rfl⟩ := effect.exists_pollWrites inv sofar.phase read
  have edges := poll.edges_eq sofar sample
  have ends : captureTail v = v.tickElapsed.enterClassify := by
    refine if_pos ?_
    rw [State.edgeCount, edges, poll.params, poll.elapsed, sofar.elapsed]
    exact ends_at_lastPoll inv.maxEdges_pos level
  rw [ends] at stepped
  refine ⟨_, stepped, rfl, rfl, edges.trans (levelChanges_lastPoll inv.maxEdges_pos level), ?_⟩
  calc v.tickElapsed.elapsed = v.elapsed + 1 := poll.polled.elapsed_tickElapsed
    _ = lastPoll s.params level + 1 := by rw [poll.elapsed, sofar.elapsed]

/-- A read failure ends the capture with what it holds (R122). -/
theorem CaptureAt.abort (sofar : CaptureAt level k s) (inv : AttemptInv s) (noReset : s.pins.rst = false)
    (failed : s.pins.lineErr = true) :
    ∃ t, step s = .next t ∧ t.phase = .idle ∧ t.status = .lineIoFailed ∧ t.elapsed = k ∧
      t.edges = levelChanges level (k - 1) ∧ t.bits = [] ∧ t.rejects = 0 := by
  have run : exec s.row s = .next (s.finish .lineIoFailed) := by
    rw [row_of_capture sofar.phase, if_pos failed]; rfl
  have rejects : s.rejects = 0 := inv.rejectsAreOffset.trans (inv.noWindowYet (.inl sofar.phase))
  refine ⟨_, step_of_exec_row inv.config noReset inv.statusLegal run, ?_⟩
  cases s.startWhileBusy <;> simp [sofar.elapsed, sofar.edges, inv.noBitsInCapture sofar.phase, rejects]

/-! ### The polls -/

theorem RunThrough.pins_eq {P : State → Prop} (run : RunThrough P s n t) : t.pins = Pins.ofWord (s.inputAt n) :=
  congrArg Pins.ofWord (run.inputAt_eq 0)

/-- R120, R129: `k` polls, none of them after the last one. -/
theorem CaptureAt.exists_run (start : CaptureAt level 0 s) (inv : AttemptInv s)
    (sample : ∀ j, sampledLevel s j = level j) (le : k ≤ lastPoll s.params level) (noReset : NoResetFor s k)
    (read : NoReadFailureFor s k) : ∃ t, RunThrough (·.phase = .capture) s k t ∧ CaptureAt level k t := by
  induction k with
  | zero => exact ⟨s, .done s, start⟩
  | succ k ih =>
    obtain ⟨t, run, sofar⟩ :=
      ih (by omega) (noReset.mono k.le_succ) (fun j hj => read j (hj.trans k.lt_succ_self))
    obtain ⟨u, stepped, next⟩ := sofar.poll (run.attemptInv inv)
      (by rw [run.pins_eq]; exact noReset k k.lt_succ_self)
      (by rw [run.pins_eq]; exact read k k.lt_succ_self)
      (by rw [run.pins_eq]; exact sample k)
      (by rw [run.params_eq]; exact le)
    exact ⟨u, run.snoc sofar.phase stepped, next⟩

/-- R129: a capture without reset and read failure takes the polls 0 to the last one and leaves the Edge Sequence. -/
theorem CaptureAt.exists_run_to_classify (start : CaptureAt level 0 s) (inv : AttemptInv s)
    (sample : ∀ j, sampledLevel s j = level j) (noReset : NoResetFor s (lastPoll s.params level + 1))
    (read : NoReadFailureFor s (lastPoll s.params level + 1)) :
    ∃ t, RunThrough (·.phase = .capture) s (lastPoll s.params level + 1) t ∧ t.phase = .classify ∧
      t.clsIdx = 0 ∧ t.edges = edgesOfLevels s.params level ∧ t.elapsed = lastPoll s.params level + 1 := by
  obtain ⟨t, run, sofar⟩ := start.exists_run inv sample le_rfl (noReset.mono (Nat.le_succ _))
    (fun j hj => read j (hj.trans (Nat.lt_succ_self _)))
  rw [← run.params_eq] at sofar
  obtain ⟨u, stepped, result⟩ := sofar.poll_last (run.attemptInv inv)
    (by rw [run.pins_eq]; exact noReset _ (Nat.lt_succ_self _))
    (by rw [run.pins_eq]; exact read _ (Nat.lt_succ_self _))
    (by rw [run.pins_eq, run.params_eq]; exact sample _)
  rw [run.params_eq] at result
  exact ⟨u, run.snoc sofar.phase stepped, result⟩

end Sys2Proof.Machine
end

section
/-! The classifier stage (R140 to R148): every pair examined adds what R148 has it add, so CLASSIFY computes the Bit
Sequence of the edges. -/

namespace Sys2Proof.Machine

variable {s t u : State} {p : Params} {n : Nat}

/-! ### One more pair -/

/-- What a pair of consecutive edges adds to the Bit Sequence (R143, R144, R148). -/
def pairBits (p : Params) (first second : EdgeEvent) : List Bool :=
  if second.kind then [] else [pulseBit p (pulseDuration first second)]

theorem bitsOfEdges_cons_cons (p : Params) (a b : EdgeEvent) (rest : List EdgeEvent) :
    bitsOfEdges p (a :: b :: rest) = pairBits p a b ++ bitsOfEdges p (b :: rest) := by
  rw [bitsOfEdges, pairBits]
  cases b.kind <;> rfl

/-- The Bit Sequence of one edge more has the bits of the pair that the edge completes at its end. -/
theorem bitsOfEdges_take_succ (p : Params) {edges : List EdgeEvent} {k : Nat} {first second : EdgeEvent}
    (before : edges[k]? = some first) (there : edges[k + 1]? = some second) :
    bitsOfEdges p (edges.take (k + 1 + 1)) = bitsOfEdges p (edges.take (k + 1)) ++ pairBits p first second := by
  induction k generalizing edges with
  | zero =>
    obtain ⟨rest, rfl⟩ : ∃ rest, edges = first :: second :: rest := by
      match edges, before, there with
      | _ :: _ :: rest, rfl, rfl => exact ⟨rest, rfl⟩
    exact (bitsOfEdges_cons_cons p first second []).trans (List.append_nil _)
  | succ k ih =>
    match edges, before, there with
    | a :: b :: rest, before, there =>
      simp only [List.take_succ_cons, bitsOfEdges_cons_cons, List.append_assoc]
      exact congrArg (pairBits p a b ++ ·) (ih (edges := b :: rest) before there)

/-! ### The pairs -/

/-- The bits so far are those of the pairs so far: R148 in progress. -/
def ClassifiedSoFar (s : State) : Prop := s.bits = bitsOfEdges s.params (s.edges.take (s.clsIdx + 1))

/-- Before the first pair there are no bits (R38 (e), R146 (a)). -/
theorem classifiedSoFar_of_first (inv : AttemptInv s) (phase : s.phase = .classify) (first : s.clsIdx = 0) :
    ClassifiedSoFar s := by
  have none : s.bitCount = 0 := by
    rw [inv.bitsCountFalls phase, first, fallingAfterFirst_take]
    rfl
  rw [ClassifiedSoFar, first, List.eq_nil_of_length_eq_zero none]
  match s.edges with
  | [] => rfl
  | _ :: _ => rfl

/-- A cycle of CLASSIFY with a pair left adds the pair's bits and goes on to the next one (R143, R144). -/
theorem RowEffect.examines_pair (effect : RowEffect s u) (phase : s.phase = .classify)
    (pair : s.clsIdx + 1 < s.edgeCount) :
    ∃ first second, s.edges[s.clsIdx]? = some first ∧ s.edges[s.clsIdx + 1]? = some second ∧
      u = { s with bits := s.bits ++ pairBits s.params first second, clsIdx := s.nextPair.clsIdx } := by
  cases effect with
  | clsPairFall _ first second before there falling =>
    exact ⟨first, second, before, there, by rw [pairBits, falling]; rfl⟩
  | clsPairRise _ second there rising =>
    refine ⟨_, second, List.getElem?_eq_getElem (Nat.lt_of_succ_lt pair), there, ?_⟩
    rw [pairBits, rising, if_pos rfl, List.append_nil]
    rfl
  | clsEnd _ done => exact absurd pair done.not_gt
  | start other | idleHold other | capAbort other | capSeed other | capEdge other | capSame other | decInsuf other
  | decExhaust other | decMatch other | decMismatch other => cases phase.symm.trans other

/-- A cycle of CLASSIFY without a pair left is CLS_END (R145). -/
theorem RowEffect.eq_enterDecode (effect : RowEffect s u) (phase : s.phase = .classify)
    (done : s.edgeCount ≤ s.clsIdx + 1) : u = s.enterDecode := by
  have noPair (second : EdgeEvent) (there : s.edges[s.clsIdx + 1]? = some second) : u = s.enterDecode := by
    obtain ⟨pair, -⟩ := List.getElem?_eq_some_iff.mp there
    exact absurd pair done.not_gt
  cases effect with
  | clsPairFall _ _ second _ there => exact noPair second there
  | clsPairRise _ second there => exact noPair second there
  | clsEnd => rfl
  | start other | idleHold other | capAbort other | capSeed other | capEdge other | capSame other | decInsuf other
  | decExhaust other | decMatch other | decMismatch other => cases phase.symm.trans other

/-- A pair cycle keeps the bits those of the pairs so far, one pair further (R143, R144). -/
theorem ClassifiedSoFar.pair (bits : ClassifiedSoFar s) (inv : AttemptInv s) (phase : s.phase = .classify)
    (pair : s.clsIdx + 1 < s.edgeCount) (noReset : s.pins.rst = false) :
    ∃ t, step s = .next t ∧ t.phase = .classify ∧ t.clsIdx = s.clsIdx + 1 ∧ t.edges = s.edges ∧
      ClassifiedSoFar t := by
  obtain ⟨u, effect, stepped⟩ := inv.exists_rowEffect noReset
  obtain ⟨first, second, before, there, rfl⟩ := effect.examines_pair phase pair
  obtain ⟨next, -⟩ := inv.clsIdx_nextPair there
  refine ⟨_, stepped, phase, next, rfl, ?_⟩
  rw [ClassifiedSoFar] at bits ⊢
  simp only [State.advance_bits, State.advance_params, State.advance_edges, State.advance_clsIdx, next]
  rw [bits, bitsOfEdges_take_succ _ before there]

/-- R147, R148: from any pair on, CLASSIFY takes a cycle for each pair left and one more, and leaves the Bit Sequence of
the edges. -/
theorem ClassifiedSoFar.exists_run (bits : ClassifiedSoFar s) (inv : AttemptInv s) (phase : s.phase = .classify)
    (left : s.edgeCount - 1 - s.clsIdx = n) (noReset : NoResetFor s (n + 1)) :
    ∃ t, RunThrough (·.phase = .classify) s (n + 1) t ∧ t.phase = .decode ∧ t.winOff = 0 ∧ t.edges = s.edges ∧
      t.bits = bitsOfEdges s.params s.edges := by
  induction n generalizing s with
  | zero =>
    have all : s.edges.length ≤ s.clsIdx + 1 := by rw [State.edgeCount] at left; omega
    obtain ⟨u, effect, stepped⟩ := inv.exists_rowEffect noReset.now
    cases effect.eq_enterDecode phase all
    refine ⟨_, .step phase stepped (.done _), rfl, rfl, rfl, ?_⟩
    rw [← List.take_of_length_le all]
    exact bits
  | succ n ih =>
    obtain ⟨u, stepped, classify, next, edges, bits⟩ := bits.pair inv phase (by omega) noReset.now
    have left : u.edgeCount - 1 - u.clsIdx = n := by
      rw [State.edgeCount] at left ⊢
      rw [edges, next]
      omega
    obtain ⟨t, run, result⟩ := ih bits (stepKeepsAttemptInv _ _ inv stepped) classify left (noReset.next stepped)
    rw [edges, noStepWritesAParameter _ _ stepped] at result
    exact ⟨t, .step phase stepped run, result⟩

end Sys2Proof.Machine
end

section
/-! The decoder stage (R160 to R169): what `Decode` answers from the windows passed over, and that DECODE comes to that
answer in as many cycles as it counts. -/

namespace Sys2Proof.Machine

variable {s t u : State} {bs : List Bool} {k n : Nat}

/-! ### The first valid window -/

/-- Every window at an offset below `k` fails its checksum (R160, R161). -/
def RejectedBelow (bs : List Bool) (k : Nat) : Prop := ∀ j, j < k → checksumOk (windowOf bs j) = false

theorem decodeBits_of_short (short : bs.length < 40) : decodeBits bs = .insufficientData := if_pos short

/-- R169: the first window that passes is the reading. -/
theorem decodeBits_of_valid (whole : k + 40 ≤ bs.length) (rejected : RejectedBelow bs k)
    (valid : checksumOk (windowOf bs k) = true) : decodeBits bs = .reading (windowOf bs k) k := by
  have found : firstValid bs = some k :=
    List.find?_range_eq_some.mpr ⟨valid, List.mem_range.mpr (by omega), fun j hj => by rw [rejected j hj]; rfl⟩
  have enough : ¬ bs.length < frameBits := by rw [frameBits]; omega
  rw [decodeBits, if_neg enough, found]

/-- R169: without a window that passes there is no valid frame. -/
theorem decodeBits_of_exhausted (enough : 40 ≤ bs.length) (rejected : RejectedBelow bs (bs.length - 39)) :
    decodeBits bs = .noValidFrame (bs.length - 39) := by
  have notFound : firstValid bs = none :=
    List.find?_range_eq_none.mpr fun j hj => by rw [rejected j hj]; rfl
  rw [decodeBits, if_neg (show ¬ bs.length < frameBits from enough.not_gt), notFound]

theorem decodeCycles_of_short (short : bs.length < 40) : decodeCycles bs = 1 := by
  rw [decodeCycles, decodeBits_of_short short]

theorem decodeCycles_of_valid (whole : k + 40 ≤ bs.length) (rejected : RejectedBelow bs k)
    (valid : checksumOk (windowOf bs k) = true) : decodeCycles bs = k + 1 := by
  rw [decodeCycles, decodeBits_of_valid whole rejected valid]

theorem decodeCycles_of_exhausted (enough : 40 ≤ bs.length) (rejected : RejectedBelow bs (bs.length - 39)) :
    decodeCycles bs = bs.length - 39 + 1 := by
  rw [decodeCycles, decodeBits_of_exhausted enough rejected]

/-- R168: DECODE takes a cycle for each window passed over, and at least one more. -/
theorem lt_decodeCycles (rejected : RejectedBelow bs k) (bound : k ≤ bs.length - 39) : k < decodeCycles bs := by
  obtain short | enough := Nat.lt_or_ge bs.length 40
  · rw [decodeCycles_of_short short]
    omega
  cases found : firstValid bs with
  | none =>
    rw [decodeCycles_of_exhausted enough]
    · exact Nat.lt_succ_of_le bound
    · intro j hj
      simpa using List.find?_range_eq_none.mp found j hj
  | some first =>
    obtain ⟨valid, inRange, before⟩ := List.find?_range_eq_some.mp found
    have rejectedFirst : RejectedBelow bs first := fun j hj => by simpa using before j hj
    rw [decodeCycles_of_valid (by have := List.mem_range.mp inRange; omega) rejectedFirst valid]
    by_contra passed
    rw [rejected first (by omega)] at valid
    cases valid

/-! ### The windows -/

/-- What a cycle of DECODE does, the windows below the offset having failed: it ends the attempt as `Decode` says, in
the last cycle that `Decode` counts, or it passes over one more window (R164 to R167). -/
theorem RowEffect.decodes (effect : RowEffect s u) (inv : AttemptInv s) (phase : s.phase = .decode)
    (rejected : RejectedBelow s.bits s.winOff) :
    u.bits = s.bits ∧ u.edges = s.edges ∧
      ((u.phase = .idle ∧ ShowsOutcome u (decodeBits s.bits) ∧ decodeCycles s.bits = s.winOff + 1) ∨
        (u.phase = .decode ∧ u.winOff = s.winOff + 1 ∧ RejectedBelow s.bits (s.winOff + 1))) := by
  have bound : s.winOff ≤ s.bits.length - 39 := inv.offsetBound
  have rejects := inv.rejectsAreOffset
  cases effect with
  | decInsuf _ short =>
    have first : s.winOff = 0 := by rw [State.bitCount] at short; omega
    rw [decodeBits_of_short short, decodeCycles_of_short short, first]
    exact ⟨rfl, rfl, .inl ⟨rfl, ⟨rfl, rejects.trans first⟩, rfl⟩⟩
  | decExhaust _ enough none =>
    have last : s.winOff = s.bits.length - 39 := by rw [State.bitCount] at enough none; omega
    rw [last] at rejected
    rw [decodeBits_of_exhausted enough rejected, decodeCycles_of_exhausted enough rejected, last]
    exact ⟨rfl, rfl, .inl ⟨rfl, ⟨rfl, rejects.trans last⟩, rfl⟩⟩
  | decMatch _ whole valid =>
    rw [decodeBits_of_valid whole rejected valid, decodeCycles_of_valid whole rejected valid]
    exact ⟨rfl, rfl, .inl ⟨rfl, ⟨rfl, rfl, rfl, rfl, rfl, rfl, rejects, rfl⟩, rfl⟩⟩
  | decMismatch _ whole invalid =>
    refine ⟨rfl, rfl, .inr ⟨phase, inv.winOff_rejectWindow whole, fun j hj => ?_⟩⟩
    obtain before | rfl := Nat.lt_succ_iff_lt_or_eq.mp hj
    · exact rejected j before
    · exact invalid
  | start other | idleHold other | capAbort other | capSeed other | capEdge other | capSame other | clsPairFall other
  | clsPairRise other | clsEnd other => cases phase.symm.trans other

/-- R168, R169: from any offset on, DECODE takes the cycles that `Decode` counts beyond it, and shows what `Decode`
gives. -/
theorem AttemptInv.exists_decode_run (inv : AttemptInv s) (phase : s.phase = .decode)
    (rejected : RejectedBelow s.bits s.winOff) (left : s.winOff + n = decodeCycles s.bits) (noReset : NoResetFor s n) :
    ∃ t, RunThrough (·.phase = .decode) s n t ∧ t.phase = .idle ∧ t.bits = s.bits ∧ t.edges = s.edges ∧
      ShowsOutcome t (decodeBits s.bits) := by
  induction n generalizing s with
  | zero => exact absurd (lt_decodeCycles rejected inv.offsetBound) left.ge.not_gt
  | succ n ih =>
    obtain ⟨u, effect, stepped⟩ := inv.exists_rowEffect noReset.now
    obtain ⟨bits, edges, ⟨idle, outcome, last⟩ | ⟨decode, next, rejected⟩⟩ := effect.decodes inv phase rejected
    · obtain rfl : n = 0 := by omega
      exact ⟨_, .step phase stepped (.done _), idle, bits, edges, outcome⟩
    · obtain ⟨t, run, result⟩ := ih (stepKeepsAttemptInv _ _ inv stepped) decode
        (by simpa [bits, next] using rejected)
        (by simp only [State.advance_winOff, State.advance_bits, bits, next]; omega)
        (noReset.next stepped)
      simp only [State.advance_bits, State.advance_edges, bits, edges] at result
      exact ⟨t, .step phase stepped run, result⟩

end Sys2Proof.Machine
end

section
/-! Whole attempts (R100, R103, R105, R106): an accepted START, the three stages one after another (O47), and the one
end state, with its outcome or the abort of a read failure (O60). -/

namespace Sys2Proof.Machine

variable {s t u : State} {level : Nat → Bool} {k m n : Nat}

/-! ### START -/

/-- An accepted START leads to the empty capture (R100). -/
theorem AcceptsStart.step_eq (accepts : AcceptsStart s) (inv : AttemptInv s) :
    step s = .next s.beginAttempt.advance := by
  have run : exec s.row s = .next s.beginAttempt := by
    rw [row_of_idle accepts.idle, if_pos accepts.start]; rfl
  have noMark : s.startWhileBusy = false := by rw [startWhileBusy_eq, accepts.idle]; simp
  rw [step_of_exec_row inv.config accepts.noReset inv.statusLegal run, noMark]
  rfl

theorem AcceptsStart.attemptInv (accepts : AcceptsStart s) (inv : AttemptInv s) :
    AttemptInv s.beginAttempt.advance :=
  stepKeepsAttemptInv _ _ inv (accepts.step_eq inv)

/-- Right after START nothing is captured, whatever levels come (R100, R123). -/
theorem AcceptsStart.captureAt_zero (accepts : AcceptsStart s) (inv : AttemptInv s) (level : Nat → Bool) :
    CaptureAt level 0 s.beginAttempt.advance :=
  Machine.captureAt_zero (accepts.attemptInv inv) rfl rfl level

/-- The input words of an attempt are those after its START's. -/
theorem AcceptsStart.inputAt_eq (accepts : AcceptsStart s) (inv : AttemptInv s) (k : Nat) :
    s.beginAttempt.advance.inputAt k = s.inputAt (k + 1) :=
  inputAt_of_step (accepts.step_eq inv) k

theorem AcceptsStart.sampledLevel_eq (accepts : AcceptsStart s) (inv : AttemptInv s)
    (sample : ∀ j, sampledLevel s (j + 1) = level j) (j : Nat) :
    sampledLevel s.beginAttempt.advance j = level j := by
  rw [sampledLevel, accepts.inputAt_eq inv]
  exact sample j

/-- R106: a run that is in IDLE first at its end gives the attempt's end state. -/
theorem AcceptsStart.endsAttempt (accepts : AcceptsStart s) (inv : AttemptInv s) (noReset : NoResetFor s (n + 1))
    (run : RunThrough (·.phase ≠ .idle) s.beginAttempt.advance n t) (idle : t.phase = .idle) :
    EndsAttempt s (n + 1) t where
  accepted := accepts
  noReset := noReset
  afterStart := n.succ_pos
  run := by rw [steps, accepts.step_eq inv, andThen_next, run.steps_eq]
  idle := idle
  first := by
    intro k pos before
    cases k with
    | zero => exact absurd pos (Nat.lt_irrefl 0)
    | succ k =>
      rw [steps, accepts.step_eq inv, andThen_next]
      exact run.before k (Nat.lt_of_succ_lt_succ before)

/-! ### An attempt without reset and read failure -/

/-- A stage's run is a run of an attempt. -/
theorem RunThrough.busy {phase : Phase} (run : RunThrough (·.phase = phase) s n t) (running : phase ≠ .idle) :
    RunThrough (·.phase ≠ .idle) s n t :=
  run.mono fun _ here => here ▸ running

/-- R147, R168: from the first cycle of CLASSIFY, `K + D` cycles decode the bits of the edges. -/
theorem AttemptInv.exists_run_to_idle (inv : AttemptInv s) (phase : s.phase = .classify) (first : s.clsIdx = 0)
    (noReset : NoResetFor s (classifyCycles s.edges + decodeCycles (bitsOfEdges s.params s.edges))) :
    ∃ t, RunThrough (·.phase ≠ .idle) s (classifyCycles s.edges + decodeCycles (bitsOfEdges s.params s.edges)) t ∧
      t.phase = .idle ∧ t.edges = s.edges ∧ t.bits = bitsOfEdges s.params s.edges ∧
      ShowsOutcome t (decodeBits (bitsOfEdges s.params s.edges)) := by
  obtain ⟨u, classify, decoding, window, edges, bits⟩ :=
    (classifiedSoFar_of_first inv phase first).exists_run inv phase (by rw [first]; rfl)
      (noReset.mono (Nat.le_add_right _ _))
  have rejected : RejectedBelow u.bits u.winOff := by
    rw [window]
    exact fun j hj => absurd hj j.not_lt_zero
  obtain ⟨t, decode, idle, sameBits, sameEdges, outcome⟩ :=
    (classify.attemptInv inv).exists_decode_run decoding rejected (by rw [window, bits, Nat.zero_add])
      (classify.noResetFor noReset)
  rw [bits] at sameBits outcome
  exact ⟨t, (classify.busy (by decide)).trans (decode.busy (by decide)), idle, sameEdges.trans edges, sameBits,
    outcome⟩

/-- R223: `1 + C + K + D` cycles through the three stages, each on what the one before it left. -/
theorem AcceptsStart.exists_endsAttempt (accepts : AcceptsStart s) (inv : AttemptInv s)
    (sample : ∀ j, sampledLevel s (j + 1) = level j) (noReset : NoResetFor s (attemptCycles s.params level))
    (read : NoReadFailureFor s.advance (lastPoll s.params level + 1)) :
    ∃ t, EndsAttempt s (attemptCycles s.params level) t ∧ t.edges = edgesOfLevels s.params level ∧
      t.bits = bitsOfEdges s.params (edgesOfLevels s.params level) ∧
      ShowsOutcome t (decodeBits (bitsOfEdges s.params (edgesOfLevels s.params level))) := by
  have cycles : attemptCycles s.params level =
      (lastPoll s.params level + 1) + (classifyCycles (edgesOfLevels s.params level) +
        decodeCycles (bitsOfEdges s.params (edgesOfLevels s.params level))) + 1 := by
    rw [attemptCycles]
    omega
  rw [cycles] at noReset ⊢
  have started := accepts.attemptInv inv
  have afterStart := noReset.next (accepts.step_eq inv)
  obtain ⟨u, capture, classifying, first, edges, -⟩ :=
    (accepts.captureAt_zero inv level).exists_run_to_classify started (accepts.sampledLevel_eq inv sample)
      (afterStart.mono (Nat.le_add_right _ _)) read
  have params : u.params = s.params := capture.params_eq
  have edges : u.edges = edgesOfLevels s.params level := edges
  obtain ⟨t, decoding, idle, result⟩ := (capture.attemptInv started).exists_run_to_idle classifying first
    (by rw [edges, params]; exact capture.noResetFor afterStart)
  rw [edges, params] at decoding result
  exact ⟨t, accepts.endsAttempt inv noReset ((capture.busy (by decide)).trans decoding) idle, result⟩

/-- Settles O47: the coming edge accepts the START, and the attempt's end state is the one of the run above. -/
theorem anAttemptDecodesTheSampledLevels : Obligations.AnAttemptDecodesTheSampledLevels := by
  intro s level inv idle start sample noReset read
  have accepts : AcceptsStart s := ⟨idle, noReset 0 (by rw [attemptCycles]; omega), start⟩
  obtain ⟨t, ends, edges, bits, outcome⟩ := accepts.exists_endsAttempt inv sample noReset read
  exact ⟨⟨t, ends.run, ends.idle, edges, bits, outcome⟩, ends.first⟩

/-! ### The one end state -/

/-- R106: the first IDLE state after the START comes after one number of steps. -/
theorem endsAttempt_unique (first : EndsAttempt s m t) (second : EndsAttempt s n u) : m = n ∧ t = u := by
  have notEarlier {a b : Nat} {x y : State} (ends : EndsAttempt s a x) (other : EndsAttempt s b y) : ¬ a < b := by
    intro earlier
    obtain ⟨v, run, running⟩ := other.first a ends.afterStart earlier
    cases ends.run.symm.trans run
    exact running ends.idle
  obtain rfl : m = n :=
    Nat.le_antisymm (Nat.not_lt.mp (notEarlier second first)) (Nat.not_lt.mp (notEarlier first second))
  cases first.run.symm.trans second.run
  exact ⟨rfl, rfl⟩

/-- R103: an accepted START without reset within the bound has an end state within it, with an outcome. -/
theorem AcceptsStart.exists_end (accepts : AcceptsStart s) (inv : AttemptInv s)
    (noReset : NoResetFor s (attemptBound s.params)) :
    ∃ n t, n ≤ attemptBound s.params ∧ EndsAttempt s n t ∧ AttemptOutcome s t := by
  have bound : attemptBound s.params =
      (s.params.captureTicks + 1) + (s.params.maxEdges - 1 + 1) + (bitCap s.params - 39 + 1) + 1 := by
    rw [attemptBound]
    omega
  rw [bound] at noReset ⊢
  obtain ⟨n, t, le, run, idle, outcome⟩ := (accepts.attemptInv inv).exists_end (by simp)
    (stepsLeft_le s.beginAttempt.advance) (noReset.next (accepts.step_eq inv))
  exact ⟨n + 1, t, Nat.succ_le_succ le,
    accepts.endsAttempt inv (noReset.mono (Nat.succ_le_succ le)) run idle,
    outcome.of_sameReading (SameReading.refl s)⟩

/-- A run that does not end its attempt in OK keeps the last reading (R31, R32). -/
theorem RunThrough.sameReading (run : RunThrough (·.phase ≠ .idle) s n t) (noReset : NoResetFor s n)
    (noMatch : t.phase = .idle → t.status ≠ .ok) : SameReading s t := by
  induction run with
  | done s => exact .refl s
  | step here stepped rest ih =>
    refine (sameReading_of_step stepped noReset.now ?_).trans (ih (noReset.next stepped) noMatch)
    cases rest with
    | done => exact noMatch
    | step running => exact fun idle => absurd idle running

/-- R122, R191: with the first read failure at poll `k`, the attempt ends in that cycle with what was sampled before it,
and gives no reading. -/
theorem AcceptsStart.exists_abort (accepts : AcceptsStart s) (inv : AttemptInv s)
    (sample : ∀ j, sampledLevel s (j + 1) = level j) (le : k ≤ lastPoll s.params level)
    (noReset : NoResetFor s (k + 2)) (read : NoReadFailureFor s.advance k)
    (failed : (Pins.ofWord (s.inputAt (k + 1))).lineErr = true) :
    ∃ t, EndsAttempt s (k + 2) t ∧ t.status = .lineIoFailed ∧ t.elapsed = k ∧ t.edges = levelChanges level (k - 1) ∧
      t.bits = [] ∧ t.rejects = 0 ∧ SameResults s t ∧ t.attemptResult = none := by
  have started := accepts.attemptInv inv
  have afterStart := noReset.next (accepts.step_eq inv)
  obtain ⟨u, capture, sofar⟩ := (accepts.captureAt_zero inv level).exists_run started
    (accepts.sampledLevel_eq inv sample) le (afterStart.mono k.le_succ) read
  obtain ⟨t, stepped, idle, status, elapsed, edges, bits, rejects⟩ := sofar.abort (capture.attemptInv started)
    (capture.noResetFor afterStart).now (by rw [capture.pins_eq, accepts.inputAt_eq inv]; exact failed)
  have run := (capture.snoc sofar.phase stepped).busy (by decide)
  obtain ⟨results, -⟩ := run.sameReading afterStart (by simp [status])
  exact ⟨t, accepts.endsAttempt inv noReset run idle, status, elapsed, edges, bits, rejects, results,
    by rw [State.attemptResult, status]⟩

/-- Settles O60: the end state exists within the bound, is the first IDLE state, and is the abort's where a read
fails. -/
theorem everyAcceptedStartHasOneEndState : Obligations.EveryAcceptedStartHasOneEndState := by
  refine ⟨fun s inv accepts => accepts.exists_end inv, fun _ _ _ _ _ => endsAttempt_unique, ?observation,
    fun s level k inv accepts => accepts.exists_abort inv⟩
  case observation =>
    rintro s _ _ ⟨m, t, first, rfl⟩ ⟨n, u, second, rfl⟩
    rw [(endsAttempt_unique first second).2]

end Sys2Proof.Machine
end

section
/-! The edge capture statements (41_edge_capture.md): the four operations of a poll as exact next states (O5 to O8), a
read failure as a step (O43), and the Edge Sequence that a whole capture leaves (O42). -/

namespace Sys2Proof.Machine

variable {s : State}

/-! ### One operation -/

/-- The tail of a poll whose next time fits its register (R10, R121). -/
theorem captureTail_of_elapsed_fits (fits : s.elapsed + 1 < 2 ^ s.params.tsW) :
    captureTail s =
      if s.edgeCount = s.params.maxEdges ∨ s.elapsed = s.params.captureTicks then
        { s with elapsed := s.elapsed + 1, phase := .classify, clsIdx := 0 }
      else { s with elapsed := s.elapsed + 1 } := by
  rw [captureTail, State.tickElapsed, fitTs_of_lt fits]
  rfl

/-- A poll's time that fits its register is recorded as it is (R52). -/
theorem pushEdge_of_fits {ts : Nat} (fits : ts < 2 ^ s.params.tsW) (kind : Bool) :
    s.pushEdge ts kind = { s with edges := s.edges ++ [{ ts := ts, kind := kind }] } := by
  rw [State.pushEdge, fitTs_of_lt fits]

/-- CAP_EDGE with a full buffer is the fault of EdgeAppend (R52). -/
theorem exec_capEdge_of_full (full : s.params.maxEdges ≤ s.edgeCount) : exec .capEdge s = .fault .edgeBufferFull := by
  rw [exec, execCapEdge, edgeAppend_of_full _ _ full]

/-- Settles O5: CAP_ABORT is the named update of R192. -/
theorem capAbortEndsTheAttempt : Obligations.CapAbortEndsTheAttempt := ⟨rfl, rfl, fun _ => rfl⟩

/-- Settles O6: the tail's test reads neither the level nor HAVE_LAST, so it is that of the state before the poll. -/
theorem capSeedTakesTheLevel : Obligations.CapSeedTakesTheLevel :=
  ⟨rfl, rfl, fun s fits =>
    congrArg Host.Outcome.next (captureTail_of_elapsed_fits (s := s.seedLevel s.pins.lineLevel) fits)⟩

/-- Settles O7: with room the entry is appended and the tail tests the new count; without room the append faults. -/
theorem capEdgeAppendsTheEdge : Obligations.CapEdgeAppendsTheEdge := by
  refine ⟨rfl, rfl, fun s room fits => exec_capEdge_eq_next.mpr ⟨room, ?_⟩, fun s => exec_capEdge_of_full⟩
  have count : ((s.pushEdge s.elapsed s.pins.lineLevel).noteLevel s.pins.lineLevel).edgeCount = s.edgeCount + 1 :=
    edgeCount_pushEdge s _ _
  rw [captureTail_of_elapsed_fits (by exact fits), count, pushEdge_of_fits (Nat.lt_of_succ_lt fits)]
  rfl

/-- Settles O8: CAP_SAME is the tail of the poll alone. -/
theorem capSameOnlyAdvancesTime : Obligations.CapSameOnlyAdvancesTime :=
  ⟨rfl, rfl, fun _ fits => congrArg Host.Outcome.next (captureTail_of_elapsed_fits fits)⟩

/-! ### A read failure -/

/-- In CAPTURE a read failure selects CAP_ABORT before any other row, and START beside it is a violation
(R82, R102, R122). -/
theorem AttemptInv.step_of_read_failure (inv : AttemptInv s) (phase : s.phase = .capture)
    (noReset : s.pins.rst = false) (failed : s.pins.lineErr = true) :
    step s = .next
      (if s.pins.start then (s.finish .lineIoFailed).markViolation else s.finish .lineIoFailed).advance := by
  have run : exec s.row s = .next (s.finish .lineIoFailed) := by
    rw [row_of_capture phase, if_pos failed]; rfl
  have mark : s.startWhileBusy = s.pins.start := by simp [startWhileBusy_eq, phase]
  rw [step_of_exec_row inv.config noReset inv.statusLegal run, mark]

/-- Settles O43: CAP_ABORT and the violation mark write none of the registers named, and a capture has no bits. -/
theorem readFailureEndsTheCaptureAtOnce : Obligations.ReadFailureEndsTheCaptureAtOnce := by
  intro s inv phase noReset failed
  refine ⟨_, inv.step_of_read_failure phase noReset failed, ?_⟩
  have noBits := inv.noBitsInCapture phase
  cases s.pins.start with
  | false => simp [SameResults, noBits]
  | true => simp [SameResults, noBits]

/-! ### A whole capture -/

/-- Settles O42: right after START nothing is sampled, and the run through the polls to the last one ends in CLASSIFY
with the Edge Sequence. -/
theorem captureComputesTheEdgeSequence : Obligations.CaptureComputesTheEdgeSequence := by
  intro s inv phase unseeded noReset read
  have start := captureAt_zero inv phase unseeded (sampledLevel s)
  obtain ⟨t, run, result⟩ := start.exists_run_to_classify inv (fun _ => rfl) noReset read
  exact ⟨⟨t, run.steps_eq, result⟩, fun k le => run.before k (Nat.lt_succ_of_le le)⟩

end Sys2Proof.Machine
end

section
/-! The pulse classifier statements (42_pulse_classifier.md): a pulse and its bit (O54), the three operations of a pair
as exact next states (O9, O11, O12), the bounds on the bits of an Edge Sequence (O48), and the Bit Sequence that a whole
CLASSIFY leaves (O44). -/

namespace Sys2Proof.Machine

variable {s : State} {p : Params}

/-! ### A pulse -/

theorem pulseBit_eq_true_iff {d : Int} : pulseBit p d = true ↔ (threshTicks p : Int) < d := decide_eq_true_iff

/-- R142: dividing by the ticks of a microsecond compares in microseconds what was compared in ticks. -/
theorem threshTicks_lt_iff_us (clock : 1 ≤ p.ticksPerUs) (d : Nat) :
    threshTicks p < d ↔ (p.thresholdUs : ℚ) < (d : ℚ) / (p.ticksPerUs : ℚ) := by
  have positive : (0 : ℚ) < p.ticksPerUs := Nat.cast_pos.mpr clock
  rw [lt_div_iff₀ positive, threshTicks]
  norm_cast

/-- Settles O54: the threshold in ticks is the one in microseconds times the ticks of a microsecond, of which there is
one. -/
theorem pulsesAboveTheThresholdAreOne : Obligations.PulsesAboveTheThresholdAreOne := by
  rintro p d ⟨clock, -, -⟩
  have ticks : pulseBit p d = true ↔ threshTicks p < d := pulseBit_eq_true_iff.trans Int.ofNat_lt
  exact ⟨ticks, ticks.trans (threshTicks_lt_iff_us clock d)⟩

/-- R141, R142: the bit of a pair compares the exact difference of its timestamps with the threshold in ticks. -/
theorem pulseBit_pulseDuration (p : Params) (first second : EdgeEvent) :
    pulseBit p (pulseDuration first second) =
      decide ((second.ts : Int) - (first.ts : Int) > p.thresholdUs * p.ticksPerUs) := by
  rw [pulseBit, pulseDuration, threshTicks, Nat.cast_mul]

/-! ### One operation -/

/-- The next pair's index where it fits its register (R10, R143, R144). -/
theorem nextPair_of_fits (fits : s.clsIdx + 1 < 2 ^ countWidth s.params) :
    s.nextPair = { s with clsIdx := s.clsIdx + 1 } := by
  rw [State.nextPair, fitCount_of_lt fits]

/-- Settles O9: both entries are there and the bit has room, so the pair's bit is appended. -/
theorem clsPairFallAppendsTheBit : Obligations.ClsPairFallAppendsTheBit := by
  refine ⟨rfl, rfl, fun s first second before there room fits => exec_clsPairFall_eq_next.mpr
    ⟨first, second, edgeRead_eq_ok.mpr before, edgeRead_eq_ok.mpr there, room, ?_⟩⟩
  rw [nextPair_of_fits (by exact fits), pulseBit_pulseDuration]
  rfl

/-- Settles O11: CLS_PAIR_RISE is the move to the next pair alone. -/
theorem clsPairRiseYieldsNothing : Obligations.ClsPairRiseYieldsNothing :=
  ⟨rfl, rfl, fun _ fits => congrArg Host.Outcome.next (nextPair_of_fits fits)⟩

/-- Settles O12: CLS_END is the named update of R145. -/
theorem clsEndEntersDecode : Obligations.ClsEndEntersDecode := ⟨rfl, rfl, fun _ => rfl⟩

/-! ### The number of bits -/

/-- R146 (a): a bit for each falling edge after the first edge. -/
theorem length_bitsOfEdges (p : Params) (edges : List EdgeEvent) :
    (bitsOfEdges p edges).length = fallingAfterFirst edges := by
  match edges with
  | [] | [_] => rfl
  | a :: b :: rest =>
    rw [bitsOfEdges_cons_cons, List.length_append, length_bitsOfEdges p (b :: rest), pairBits]
    cases kind : b.kind <;> simp [fallingAfterFirst, kind, Nat.add_comm]

/-- R146 (b). -/
theorem fallingAfterFirst_le_pairs (edges : List EdgeEvent) : fallingAfterFirst edges ≤ edges.length - 1 :=
  (List.length_filter_le _ _).trans_eq List.length_tail

/-- Settles O48: every clause is a bound on the falling edges after the first. -/
theorem bitCountBounds : Obligations.BitCountBounds := by
  intro p edges
  have count := length_bitsOfEdges p edges
  have pairs := fallingAfterFirst_le_pairs edges
  have all : edges.take (edges.length - 1 + 1) = edges := List.take_of_length_le (by omega)
  refine ⟨?byIndex, ?byPairs, fun alternate => ?byHalf, fun few => ?none⟩
  case byIndex => rw [count, ← fallingAfterFirst_take_eq_range le_rfl, all]
  case byPairs => rwa [count, Nat.max_zero]
  case byHalf => exact count.trans_le (fallingAfterFirst_le_half (isChain_iff_getElem?.mpr alternate))
  case none => exact List.eq_nil_of_length_eq_zero (by omega)

/-! ### A whole classification -/

/-- Settles O44: before the first pair there are no bits, and the run through the pairs ends in DECODE with the Bit
Sequence. -/
theorem classifyComputesTheBitSequence : Obligations.ClassifyComputesTheBitSequence := by
  intro s inv phase first noReset
  rw [Nat.max_zero] at noReset ⊢
  obtain ⟨t, run, decode, window, edges, bits⟩ :=
    (classifiedSoFar_of_first inv phase first).exists_run inv phase (by rw [first]; rfl) noReset
  exact ⟨⟨t, run.steps_eq, decode, edges, bits, window⟩, fun k le => run.before k (Nat.lt_succ_of_le le)⟩

end Sys2Proof.Machine
end

section
/-! The stages' results (R148, R161, R166, R169): what each phase takes for them to be those of the functional forms, and
that every step keeps them so (O31). -/

namespace Sys2Proof.Machine

variable {s t u : State}

/-! ### What the results are in each phase -/

/-- The result registers are one frame's, and its checksum holds, once there is a reading (R166). -/
def ReadingWhole (s : State) : Prop :=
  s.haveReading = true →
    checksumOk s.resFrame = true ∧ s.resHum = humidityOf s.resFrame ∧ s.resTemp = temperatureOf s.resFrame ∧
      s.resTsign = tempSignOf s.resFrame

theorem stageInv_of_capture (phase : s.phase = .capture) (reading : ReadingWhole s) : StageInv s := by
  constructor
  case readingWhole => exact reading
  all_goals simp [phase]

theorem stageInv_of_classify (phase : s.phase = .classify) (bits : ClassifiedSoFar s) (reading : ReadingWhole s) :
    StageInv s := by
  constructor
  case classifying => exact fun _ => bits
  case readingWhole => exact reading
  all_goals simp [phase]

theorem stageInv_of_decode (phase : s.phase = .decode) (bits : s.bits = bitsOfEdges s.params s.edges)
    (rejected : RejectedBelow s.bits s.winOff) (reading : ReadingWhole s) : StageInv s := by
  constructor
  case classified => exact fun _ => bits
  case rejected => exact fun _ => rejected
  case readingWhole => exact reading
  all_goals simp [phase]

/-- An attempt that a read failure ended has no Bit Sequence to decode (R122). -/
theorem stageInv_of_lineIoFailed (phase : s.phase = .idle) (status : s.status = .lineIoFailed)
    (reading : ReadingWhole s) : StageInv s := by
  constructor
  case readingWhole => exact reading
  all_goals simp [phase, status]

/-- An attempt that shows the outcome of `Decode` (R169). -/
theorem stageInv_of_showsOutcome (phase : s.phase = .idle) (bits : s.bits = bitsOfEdges s.params s.edges)
    (outcome : ShowsOutcome s (decodeBits s.bits)) (reading : ReadingWhole s) : StageInv s := by
  cases decoded : decodeBits s.bits with
  | insufficientData =>
    rw [decoded] at outcome
    obtain ⟨status, rejects⟩ := outcome
    constructor
    case readingWhole => exact reading
    case insufficientIsDecoded => exact fun _ _ => ⟨bits, decoded, rejects⟩
    all_goals simp [phase, status]
  | reading w k =>
    rw [decoded] at outcome
    obtain ⟨status, rfl, -, -, -, rfl, rejects, -⟩ := outcome
    constructor
    case readingWhole => exact reading
    case okIsDecoded => exact fun _ _ => ⟨bits, decoded, rejects⟩
    all_goals simp [phase, status]
  | noValidFrame r =>
    rw [decoded] at outcome
    obtain ⟨status, rfl⟩ := outcome
    constructor
    case readingWhole => exact reading
    case noFrameIsDecoded => exact fun _ _ => ⟨bits, decoded⟩
    all_goals simp [phase, status]

/-! ### Every step -/

/-- DEC_MATCH stores a window that passed with its fields, and no other row writes a result (R31, R166). -/
theorem RowEffect.readingWhole (effect : RowEffect s u) (reading : ReadingWhole s) : ReadingWhole u := by
  cases effect with
  | decMatch _ _ valid => exact fun _ => ⟨valid, rfl, rfl, rfl⟩
  | _ => simpa [ReadingWhole] using reading

/-- A poll leaves the capture running or goes on to the first pair, before which there are no bits (R121). -/
theorem stageInv_of_poll_step (inv : AttemptInv s) (phase : s.phase = .capture) (read : s.pins.lineErr = false)
    (noReset : s.pins.rst = false) (stepped : step s = .next t) (reading : ReadingWhole t) : StageInv t := by
  have next := stepKeepsAttemptInv s t inv stepped
  obtain ⟨u, effect, rfl⟩ := step_without_reset stepped noReset
  obtain ⟨v, poll, rfl⟩ := effect.exists_pollWrites inv phase read
  obtain ⟨-, eq⟩ | ⟨-, -, eq⟩ := captureTail_cases v
  · rw [eq] at next reading ⊢
    exact stageInv_of_classify rfl (classifiedSoFar_of_first next rfl rfl) reading
  · rw [eq] at reading ⊢
    exact stageInv_of_capture poll.polled.phase reading

/-- A cycle of CLASSIFY examines one more pair, or goes on to the first window with all of them examined
(R143 to R145). -/
theorem ClassifiedSoFar.stageInv_of_step (bits : ClassifiedSoFar s) (inv : AttemptInv s)
    (phase : s.phase = .classify) (noReset : s.pins.rst = false) (stepped : step s = .next t)
    (reading : ReadingWhole t) : StageInv t := by
  obtain pair | done := Nat.lt_or_ge (s.clsIdx + 1) s.edgeCount
  · obtain ⟨_, steppedPair, classify, -, -, bits⟩ := bits.pair inv phase pair noReset
    cases stepped.symm.trans steppedPair
    exact stageInv_of_classify classify bits reading
  · obtain ⟨u, effect, rfl⟩ := step_without_reset stepped noReset
    cases effect.eq_enterDecode phase done
    rw [ClassifiedSoFar, List.take_of_length_le done] at bits
    exact stageInv_of_decode rfl bits (fun j hj => absurd hj j.not_lt_zero) reading

/-- A cycle of DECODE passes over one more window, or ends the attempt as `Decode` says (R164 to R167). -/
theorem stageInv_of_decode_step (inv : AttemptInv s) (phase : s.phase = .decode)
    (bits : s.bits = bitsOfEdges s.params s.edges) (rejected : RejectedBelow s.bits s.winOff)
    (noReset : s.pins.rst = false) (stepped : step s = .next t) (reading : ReadingWhole t) : StageInv t := by
  have sameParams := noStepWritesAParameter s t stepped
  obtain ⟨u, effect, rfl⟩ := step_without_reset stepped noReset
  obtain ⟨sameBits, sameEdges, progress⟩ := effect.decodes inv phase rejected
  rw [← sameBits, ← sameEdges, ← sameParams] at bits
  rw [← sameBits] at progress
  obtain ⟨idle, outcome, -⟩ | ⟨decode, next, rejected⟩ := progress
  · exact stageInv_of_showsOutcome idle bits outcome reading
  · rw [← next] at rejected
    exact stageInv_of_decode decode bits rejected reading

/-- Settles O31: a reset leaves nothing to agree, START and a read failure leave no Bit Sequence, and the cycles of each
stage carry its result one further. -/
theorem stepKeepsStageInv : Obligations.StepKeepsStageInv := by
  intro s t inv stage stepped
  cases reset : s.pins.rst with
  | true =>
    cases (step_of_reset inv.config reset).symm.trans stepped
    exact { stageInv_resetElements s with }
  | false =>
    obtain ⟨u, effect, rfl⟩ := step_without_reset stepped reset
    have reading := effect.readingWhole stage.readingWhole
    cases effect with
    | start => exact stageInv_of_capture rfl reading
    | idleHold => exact { stage with }
    | capAbort => exact stageInv_of_lineIoFailed rfl rfl reading
    | capSeed phase read | capEdge phase read | capSame phase read =>
      exact stageInv_of_poll_step inv phase read reset stepped reading
    | clsPairFall phase | clsPairRise phase | clsEnd phase =>
      exact ClassifiedSoFar.stageInv_of_step (stage.classifying phase) inv phase reset stepped reading
    | decInsuf phase | decExhaust phase | decMatch phase | decMismatch phase =>
      exact stageInv_of_decode_step inv phase (stage.classified phase) (stage.rejected phase) reset stepped reading

end Sys2Proof.Machine
end

section
/-! The frame decoder statements (43_frame_decoder.md): a whole DECODE (O45), the checksum of a window with bytes
changed and of the all-zero window (O52, O53), and the four operations as exact next states (O13 to O16). -/

namespace Sys2Proof.Machine

variable {s t : State} {bs : List Bool} {w w' : FrameWord} {j : Nat}

/-! ### A whole decoding -/

/-- Before the first window none has failed. -/
theorem rejectedBelow_zero (bs : List Bool) : RejectedBelow bs 0 := fun j below => absurd below j.not_lt_zero

/-- R169: the three answers of `Decode`, with where they come from. -/
theorem decodeBits_cases (bs : List Bool) :
    (bs.length < 40 ∧ decodeBits bs = .insufficientData) ∨
      (∃ k, k + 40 ≤ bs.length ∧ decodeBits bs = .reading (windowOf bs k) k) ∨
      (40 ≤ bs.length ∧ decodeBits bs = .noValidFrame (bs.length - 39)) := by
  obtain short | enough := Nat.lt_or_ge bs.length 40
  · exact .inl ⟨short, decodeBits_of_short short⟩
  have answer : decodeBits bs = _ := if_neg enough.not_gt
  cases found : firstValid bs with
  | none => exact .inr (.inr ⟨enough, by rw [answer, found]⟩)
  | some k =>
    obtain ⟨-, inRange, -⟩ := List.find?_range_eq_some.mp found
    exact .inr (.inl ⟨k, by have := List.mem_range.mp inRange; omega, by rw [answer, found]⟩)

/-- R168: DECODE takes at most a cycle for each window there is, and one more. -/
theorem decodeCycles_le (bs : List Bool) : decodeCycles bs ≤ bs.length - 39 + 1 := by
  obtain ⟨-, answer⟩ | ⟨k, whole, answer⟩ | ⟨-, answer⟩ := decodeBits_cases bs <;>
    simp only [decodeCycles, answer] <;> omega

/-- R168: the outcome's REJECTS counts the cycles of DECODE but the last. -/
theorem decodeCycles_of_showsOutcome (outcome : ShowsOutcome t (decodeBits bs)) :
    decodeCycles bs = if bs.length < 40 then 1 else t.rejects + 1 := by
  obtain ⟨short, answer⟩ | ⟨k, whole, answer⟩ | ⟨enough, answer⟩ := decodeBits_cases bs <;>
    rw [answer] at outcome <;> simp only [decodeCycles, answer]
  · rw [if_pos short]
  · obtain ⟨-, -, -, -, -, -, rejects, -⟩ := outcome
    rw [if_neg (by omega), rejects]
  · obtain ⟨-, rejects⟩ := outcome
    rw [if_neg enough.not_gt, rejects]

/-- Settles O45: at the first window none has failed yet, and the run through the windows ends with the outcome of
`Decode`. -/
theorem decodeComputesTheFirstValidFrame : Obligations.DecodeComputesTheFirstValidFrame := by
  intro s inv phase first noReset
  have rejected : RejectedBelow s.bits s.winOff := first ▸ rejectedBelow_zero s.bits
  obtain ⟨t, run, idle, bits, edges, outcome⟩ :=
    inv.exists_decode_run phase rejected (by rw [first, Nat.zero_add]) noReset
  rw [Nat.max_zero]
  exact ⟨⟨t, run.steps_eq, idle, bits, edges, outcome, decodeCycles_of_showsOutcome outcome, decodeCycles_le s.bits⟩,
    run.before⟩

/-! ### The checksum -/

/-- What byte `i` of a window adds to its checksum equation `B_0 + B_1 + B_2 + B_3 - B_4 = 0` (R77). -/
def checkTerm (w : FrameWord) (i : Nat) : Byte := if i = 4 then -frameByte w i else frameByte w i

theorem checksumOk_iff_sum_checkTerm : checksumOk w = true ↔ ∑ i ∈ Finset.range 5, checkTerm w i = 0 := by
  rw [checksumOk, beq_iff_eq, ← sub_eq_zero]
  simp [Finset.sum_range_succ, checkTerm, sum8, sub_eq_add_neg]

theorem checkTerm_inj {i : Nat} : checkTerm w' i = checkTerm w i ↔ frameByte w' i = frameByte w i := by
  unfold checkTerm
  split_ifs
  · exact neg_inj
  · rfl

/-- R170: of a window that passes, each byte is determined by the other four. -/
theorem frameByte_eq_of_checksumOk (valid : checksumOk w = true) (valid' : checksumOk w' = true) (hj : j < 5)
    (others : ∀ i, i < 5 → i ≠ j → frameByte w' i = frameByte w i) : frameByte w' j = frameByte w j := by
  have mem : j ∈ Finset.range 5 := Finset.mem_range.mpr hj
  have sums := (checksumOk_iff_sum_checkTerm.mp valid').trans (checksumOk_iff_sum_checkTerm.mp valid).symm
  have rest : ∑ i ∈ (Finset.range 5).erase j, checkTerm w' i = ∑ i ∈ (Finset.range 5).erase j, checkTerm w i := by
    refine Finset.sum_congr rfl fun i other => checkTerm_inj.mpr ?_
    obtain ⟨ne, below⟩ := Finset.mem_erase.mp other
    exact others i (Finset.mem_range.mp below) ne
  rw [← Finset.add_sum_erase _ _ mem, ← Finset.add_sum_erase _ (checkTerm w) mem, rest] at sums
  exact checkTerm_inj.mp (add_right_cancel sums)

/-- R170: one more in `B_0` and one less in `B_1` cancel in the sum. -/
theorem sum8_of_cancelling_pair (up : frameByte w' 0 = frameByte w 0 + 1#8)
    (down : frameByte w' 1 = frameByte w 1 - 1#8) (third : frameByte w' 2 = frameByte w 2)
    (fourth : frameByte w' 3 = frameByte w 3) : sum8 w' = sum8 w := by
  rw [sum8, sum8, up, down, third, fourth, add_add_sub_cancel]

/-- Settles O52: were the second window to pass too, its changed byte would be the first's. -/
theorem singleByteCorruptionIsDetected : Obligations.SingleByteCorruptionIsDetected := by
  refine ⟨fun w w' j valid hj changed others => ?_, fun w w' valid up down others => ?_⟩
  · by_contra passes
    exact changed (frameByte_eq_of_checksumOk valid (by simpa using passes) hj others)
  · rw [checksumOk, sum8_of_cancelling_pair up down (others 2 (by decide) le_rfl) (others 3 (by decide) (by decide)),
      others 4 (by decide) (by decide)]
    exact valid

/-- Forty leading zeros are the all-zero window (R171). -/
theorem windowOf_zeros (enough : 40 ≤ bs.length) (zeros : ∀ j, j < 40 → bs[j]? = some false) :
    windowOf bs 0 = 0#40 := by
  refine BitVec.eq_of_getLsbD_eq fun i hi => ?_
  have bit := windowOf_bit bs 0 (39 - i) (by omega) (by omega)
  rw [show 39 - (39 - i) = i by omega, Nat.zero_add, List.getD_eq_getElem?_getD, zeros _ (by omega)] at bit
  rw [bit, BitVec.getLsbD_zero]
  rfl

/-- Settles O53: the window at offset 0 passes, and no window stands before it. -/
theorem allZeroWindowIsAccepted : Obligations.AllZeroWindowIsAccepted := by
  intro bs enough zeros
  have window := windowOf_zeros enough zeros
  have reading := decodeBits_of_valid (k := 0) (by omega) (rejectedBelow_zero bs)
    (show checksumOk (windowOf bs 0) = true by rw [window]; decide)
  exact ⟨window ▸ reading, by decide, by decide⟩

/-! ### One operation -/

/-- Settles O13: DEC_INSUF is the named update of R192. -/
theorem decInsufEndsTheAttempt : Obligations.DecInsufEndsTheAttempt := ⟨rfl, rfl, fun _ => rfl⟩

/-- R82, R83: DEC_EXHAUST's row tests that bits 8 and 9 are 0, so the bits are enough and no window is left. -/
theorem exhausted_of_decode_sel {side : Bool} (selected : Sys2Proof.decode s.sel = .ok (.run .decExhaust side)) :
    40 ≤ s.bitCount ∧ s.bitCount < s.winOff + 40 := by
  obtain ⟨-, applies⟩ := applies_of_decode selected
  obtain ⟨-, -, -, -, -, -, -, short, winAvail, -⟩ := selectorBitsAreTheConditions s
  have noBit8 : s.sel.getLsbD 8 = false := getLsbD_of_applies applies (by decide)
  have noBit9 : s.sel.getLsbD 9 = false := getLsbD_of_applies applies (by decide)
  exact ⟨Nat.le_of_not_lt (of_decide_eq_false (short.symm.trans noBit8)),
    Nat.lt_of_not_le (of_decide_eq_false (winAvail.symm.trans noBit9))⟩

/-- Settles O14: the offset is at most BIT_COUNT - 39 (R163), and with no window left it is no less. -/
theorem decExhaustEndsTheAttempt : Obligations.DecExhaustEndsTheAttempt := by
  refine ⟨rfl, rfl, fun _ => rfl, fun s side inv selected => ?_⟩
  obtain ⟨enough, none⟩ := exhausted_of_decode_sel selected
  have bound := inv.offsetBound
  have last : s.winOff + 39 = s.bitCount := by omega
  exact ⟨last, by rw [inv.rejectsAreOffset, last]⟩

/-- Window at an offset where it is not whole is the model fault of BitRead (R54, R57). -/
theorem readWindow_of_not_whole {k : Nat} (short : s.bitCount < k + 40) :
    readWindow s k = .error .bitHoldsNoValue := if_neg short.not_ge

/-- R58, R77: `B_0` and `B_1` are the window's top 16 bits. -/
theorem humidityOf_eq_extract (w : FrameWord) : humidityOf w = w.extractLsb' 24 16 :=
  BitVec.extractLsb'_append_extractLsb'_eq_extractLsb' rfl

/-- R77: the top bit of `B_2`. -/
theorem tempSignOf_eq_bit (w : FrameWord) : tempSignOf w = w.getLsbD 23 :=
  frameByte_bit w (j := 2) (b := 0) (by decide) (by decide)

/-- R77: the low seven bits of `B_2` and the bits of `B_3` stand side by side in the window. -/
theorem tempMagnitudeOf_eq_extract (w : FrameWord) : tempMagnitudeOf w = w.extractLsb' 8 15 := by
  have low : (frameByte w 2).extractLsb' 0 7 = w.extractLsb' 16 7 := by
    refine BitVec.eq_of_getLsbD_eq fun i hi => ?_
    have inByte : i < 8 := by omega
    simp [frameByte, hi, inByte]
  rw [tempMagnitudeOf, low]
  exact BitVec.extractLsb'_append_extractLsb'_eq_extractLsb' rfl

/-- Settles O15: with the window whole its fields are stored, each at its place in it; otherwise its read faults. -/
theorem decMatchStoresTheReading : Obligations.DecMatchStoresTheReading := by
  refine ⟨rfl, rfl, fun s whole => ⟨windowOf s.bits s.winOff, fun m => bitRead_of_window whole,
    exec_decMatch_eq_next.mpr ⟨_, readWindow_eq_ok.mpr ⟨whole, rfl⟩, ?_⟩⟩, fun s short => ?_⟩
  · rw [← humidityOf_eq_extract, ← tempSignOf_eq_bit, ← tempMagnitudeOf_eq_extract]
    rfl
  · rw [exec, execDecMatch, readWindow_of_not_whole short]

/-- The next window's offset and count where they fit their registers (R10, R167). -/
theorem rejectWindow_of_fits (offset : s.winOff + 1 < 2 ^ countWidth s.params)
    (count : s.rejects + 1 < 2 ^ countWidth s.params) :
    s.rejectWindow = { s with rejects := s.rejects + 1, winOff := s.winOff + 1 } := by
  rw [State.rejectWindow, fitCount_of_lt offset, fitCount_of_lt count]

/-- Settles O16: with the window whole it is the rejection of R167; otherwise its read faults. -/
theorem decMismatchAdvancesOneBit : Obligations.DecMismatchAdvancesOneBit := by
  refine ⟨rfl, rfl, fun s whole offset count => exec_decMismatch_eq_next.mpr
    ⟨_, readWindow_eq_ok.mpr ⟨whole, rfl⟩, (rejectWindow_of_fits offset count).symm⟩, fun s short => ?_⟩
  rw [exec, execDecMismatch, readWindow_of_not_whole short]

end Sys2Proof.Machine
end

section
/-! The end of an attempt as its caller sees it (60_exceptions.md): `Finish` as a whole next state (O55), and what the
source's operation returns (O58). -/

namespace Sys2Proof.Machine

variable {s : State}

/-! ### Finish -/

/-- Settles O55: the named update of R192 sets these two fields and copies the others, so the states are the same field
by field. -/
theorem finishWritesOnlyPhaseAndStatus : Obligations.FinishWritesOnlyPhaseAndStatus := fun _ _ => rfl

/-! ### The attempt's result -/

theorem attemptResult_of_ok (ok : s.status = .ok) :
    s.attemptResult = some { temperatureTenths := s.resTemp.toInt, humidityTenths := s.resHum.toNat } := by
  rw [State.attemptResult, ok]

/-- R196: each code of STATUS other than OK, the reserved ones included, gives no Reading. -/
theorem attemptResult_of_ne_ok (notOk : s.status ≠ .ok) : s.attemptResult = none := by
  unfold State.attemptResult
  split
  next ok => exact absurd ok notOk
  all_goals rfl

/-- Settles O58: the two cases of STATUS. -/
theorem attemptResultIsTheReading : Obligations.AttemptResultIsTheReading :=
  fun _ => ⟨attemptResult_of_ok, attemptResult_of_ne_ok⟩

end Sys2Proof.Machine
end
